-- ==== Sys2Proof/Word.lean ====
section
/-! DEFINITION. The word types of CANCOM-IFL. Every value is an unsigned number of a stated width (00_scope.md R7).
The widths the source fixes are those of 00_scope.md R5; the widths it leaves open are fixed at the values R6 gives
this hardware (assumption log 9). -/

namespace Sys2Proof

/-- One payload byte, 8 bits (30_encoding.md R64). -/
abbrev Byte := BitVec 8

/-- The eight payload byte lanes `data[0..7]` (20_memory.md R40). -/
abbrev Lanes := Vector Byte 8

/-- A group id, GROUP_W = 11 bits (00_scope.md R5). -/
abbrev GroupId := BitVec 11

/-- A node address, ADDR_W = 18 bits (00_scope.md R5). -/
abbrev NodeAddr := BitVec 18

/-- An identifier as it crosses the transceiver boundary, EXTID_W = 29 bits (00_scope.md R5). -/
abbrev Ident := BitVec 29

/-- The value of the external hash function, HASH_W = 32 bits (00_scope.md R5). -/
abbrev UidHash := BitVec 32

/-- SEND's `id` operand, IDW = 16 bits (00_scope.md R6). -/
abbrev IdOperand := BitVec 16

/-- SEND's `length` operand, LENW = 8 bits (00_scope.md R6). -/
abbrev LenOperand := BitVec 8

/-- A filter mask, a filter value and READ's result value, FW = 16 bits (00_scope.md R6). -/
abbrev FilterWord := BitVec 16

/-- The countdown and a timeout operand in milliseconds, TW = 32 bits (00_scope.md R6). -/
abbrev Millis := BitVec 32

/-- BEGIN's `speed` operand, SPEED_W = 32 bits (00_scope.md R6). -/
abbrev Speed := BitVec 32

/-- BEGIN's `statusPort` operand, PIN_W = 8 bits (00_scope.md R6). -/
abbrev Pin := BitVec 8

/-- A byte count of a frame record and MSG_LEN, RXLEN_W = 4 bits (00_scope.md R6). -/
abbrev FrameLen := BitVec 4

/-- The 4-bit port `cmd_op`, or the four event pins (30_encoding.md R66, R67). -/
abbrev Code := BitVec 4

end Sys2Proof
end

