-- ==== Sys2Proof/Syntax.lean ====
section
/-! DEFINITION. The records and formats of 30_encoding.md sections 1 and 2 and the operation set of R70: one
constructor of `Instr` for each of the eight commands and four events. -/

namespace Sys2Proof

/-- The receive record of format FRAME (30_encoding.md R64): `ext` tells the identifier's format (R65), `len` is the
byte count the driver reports, `data` its lanes. -/
structure Frame where
  ext : Bool
  ident : Ident
  len : FrameLen
  data : Lanes
deriving DecidableEq, Repr

/-- The transmit record `tx` (30_encoding.md R64, 41_codec_send.md R102): `data` holds the bytes given to the driver
and no others (assumption log 17). -/
structure TxRecord where
  ext : Bool
  ident : Ident
  len : FrameLen
  data : List Byte
deriving DecidableEq, Repr

/-- One call on the transceiver driver's transmit interface (41_codec_send.md R104, 60_exceptions.md R164). -/
inductive DriverCall where
  | beginExtendedPacket (ident : Ident)
  | write (b : Byte)
  | endPacket
deriving DecidableEq, Repr

/-- The output events of a step (10_state.md R32; 60_exceptions.md R163, R164). -/
inductive OutEvent where
  /-- `indicator_begin(pin)`, emitted by BEGIN (40_init_identity.md R92). -/
  | indicatorBegin (pin : Pin)
  /-- A drive of IND: the indicator's `on()` or `off()` (60_exceptions.md R163; assumption log 15). -/
  | indicator (on : Bool)
  /-- `start_req(speed)`, emitted by BEGIN and START_FAIL (40_init_identity.md R92, R93). -/
  | startReq (speed : Speed)
  /-- The transmit record of SEND (41_codec_send.md R102). -/
  | tx (record : TxRecord)
deriving DecidableEq, Repr

/-- The operand ports of format CMD (30_encoding.md R66). -/
structure CmdPorts where
  speed : Speed
  pin : Pin
  data : Lanes
  len : LenOperand
  id : IdOperand
  mask : FilterWord
  filt : FilterWord
  timeout : Millis
deriving DecidableEq, Repr

/-- What the ports carry for one step: format CMD with `cmd_op`, the operand ports and the receive record the
environment offers, or format EVT with the pins `rst, tick, start_ok, start_fail` from bit 3 to bit 0 and `uid_hash`
(30_encoding.md R66, R67, R70). One sample is of one format (assumption log 14). -/
inductive Sample where
  | cmd (op : Code) (ports : CmdPorts) (rx : Option Frame)
  | evt (pins : Code) (uidHash : UidHash)
deriving DecidableEq, Repr

/-- The operation set (30_encoding.md R70). A command carries its operand ports (R66); READ carries the record `rx` the
environment offers and RESET the input `uid_hash`, as in the trace syntax of R75. -/
inductive Instr where
  | cmdBegin (speed : Speed) (pin : Pin)
  | cmdSend (data : Lanes) (len : LenOperand) (id : IdOperand)
  | cmdRead (rx : Option Frame)
  | cmdRegFilter (mask filt : FilterWord)
  | cmdClearFilter
  | cmdAlive
  | cmdSetAlive (timeout : Millis)
  | cmdUuid
  | evtReset (uidHash : UidHash)
  | evtTick
  | evtStartOk
  | evtStartFail
deriving DecidableEq, Repr

end Sys2Proof
end

