-- ==== Sys2Proof/Decode.lean ====
section
/-! DEFINITION. The decoder of the two ports and, after it, the encoder, both from the operation map of
30_encoding.md R70; reserved values by R72. -/

namespace Sys2Proof

/-- Why a sample selects no operation: 30_encoding.md R72. -/
inductive DecodeError where
  /-- `cmd_op` is 0 or 9 to 15 (93_implementation_defined.md U11). -/
  | reservedOpcode (op : Code)
  /-- More than one event pin is asserted (93_implementation_defined.md U12). -/
  | multipleEvents (pins : Code)
deriving DecidableEq, Repr

/-- What a sample asks for: an operation, no event at all (pins 0b0000, 30_encoding.md R67), or nothing that has a
meaning. -/
inductive Decoded where
  | step (i : Instr)
  | idle
  | reject (why : DecodeError)
deriving DecidableEq, Repr

/-- The command port: `cmd_op` selects, the operand ports of the selected operation are taken (30_encoding.md R66, R70). -/
def decodeCmd (op : Code) (p : CmdPorts) (rx : Option Frame) : Decoded :=
  match op with
  | 0b0001#4 => .step (.cmdBegin p.speed p.pin)
  | 0b0010#4 => .step (.cmdSend p.data p.len p.id)
  | 0b0011#4 => .step (.cmdRead rx)
  | 0b0100#4 => .step (.cmdRegFilter p.mask p.filt)
  | 0b0101#4 => .step .cmdClearFilter
  | 0b0110#4 => .step .cmdAlive
  | 0b0111#4 => .step (.cmdSetAlive p.timeout)
  | 0b1000#4 => .step .cmdUuid
  | _ => .reject (.reservedOpcode op)

/-- The event pins `rst, tick, start_ok, start_fail` (30_encoding.md R67, R70). -/
def decodeEvt (pins : Code) (uidHash : UidHash) : Decoded :=
  match pins with
  | 0b0000#4 => .idle
  | 0b1000#4 => .step (.evtReset uidHash)
  | 0b0100#4 => .step .evtTick
  | 0b0010#4 => .step .evtStartOk
  | 0b0001#4 => .step .evtStartFail
  | _ => .reject (.multipleEvents pins)

/-- The decoder, total on every sample. -/
def decode : Sample → Decoded
  | .cmd op p rx => decodeCmd op p rx
  | .evt pins uidHash => decodeEvt pins uidHash

/-- All operand ports at zero: what an operation that takes no operand leaves on them. -/
def idlePorts : CmdPorts :=
  { speed := 0, pin := 0, data := Vector.replicate 8 0, len := 0, id := 0, mask := 0, filt := 0, timeout := 0 }

/-- The encoder: the port sample that asks for an operation (30_encoding.md R70). Ports the operation does not use are
zero, and `rx` is absent but for READ. -/
def encode : Instr → Sample
  | .cmdBegin speed pin => .cmd 0b0001#4 { idlePorts with speed := speed, pin := pin } none
  | .cmdSend data len id => .cmd 0b0010#4 { idlePorts with data := data, len := len, id := id } none
  | .cmdRead rx => .cmd 0b0011#4 idlePorts rx
  | .cmdRegFilter mask filt => .cmd 0b0100#4 { idlePorts with mask := mask, filt := filt } none
  | .cmdClearFilter => .cmd 0b0101#4 idlePorts none
  | .cmdAlive => .cmd 0b0110#4 idlePorts none
  | .cmdSetAlive timeout => .cmd 0b0111#4 { idlePorts with timeout := timeout } none
  | .cmdUuid => .cmd 0b1000#4 idlePorts none
  | .evtReset uidHash => .evt 0b1000#4 uidHash
  | .evtTick => .evt 0b0100#4 0#32
  | .evtStartOk => .evt 0b0010#4 0#32
  | .evtStartFail => .evt 0b0001#4 0#32

/-- The sample a number of the opcode table stands for. The table gives commands and events the same 4-bit numbers on
two different ports (30_encoding.md R70), so a bare number is read on the command port, with every operand port zero;
that port has four wires, so bits above bit 3 do not exist (assumption log 2). -/
def tableSample (nbits w : Nat) : Sample :=
  .cmd (BitVec.ofNat 4 (w % 2 ^ nbits)) idlePorts none

/-- The operation the decoder reads from a number of the opcode table, if any (assumption log 2). -/
def decodeTableWord (nbits w : Nat) : Option Instr :=
  match decode (tableSample nbits w) with
  | .step i => some i
  | .idle => none
  | .reject _ => none

end Sys2Proof
end

