-- ==== Sys2Proof/Config.lean ====
section
/-! DEFINITION. The constants the spec fixes and the parameters and free values it leaves open. An `opaque` constant
here has no body: no proof can see its value, so a claim about it holds for every value. -/

namespace Sys2Proof.Config

/-- FILTER_CAP, the capacity of the filter table (00_scope.md R5). -/
def filterCap : Nat := 8

/-- PAYLOAD_MAX, the most payload bytes in one frame (00_scope.md R5). -/
def payloadMax : Nat := 8

/-- ALIVE_DEFAULT_MS, the fixed default timeout that a successful start-up arms; the spec leaves the value OPEN
(00_scope.md R6, 92_eei_decisions.md D10; assumption log 8). -/
opaque aliveDefaultMs : Millis

/-- The hash value the board presents at power-up, from which `State.reset` takes NODE_UUID (40_init_identity.md R91,
92_eei_decisions.md D14; assumption log 3). -/
opaque uidHash : UidHash

/-- The n-th free value, at width w: what the spec calls `any value` (00_scope.md R7; assumption logs 5 and 6). -/
opaque freeValue (w n : Nat) : BitVec w

end Sys2Proof.Config
end

