-- ==== Sys2Proof/Machine/Operands.lean ====
section
/-! DEFINITION. Operand assembly: the identifier codec, the clip of byte counts, the payload copy, the zero extension of
the group id, the capture of the node address (30_encoding.md section 3; 41_codec_send.md R100, R105; 42_read.md R110,
R111, R113). None of it touches the state. -/

namespace Sys2Proof.Machine

/-- ENC(g, u) = (g << 18) | u, a 29-bit value (41_codec_send.md R100). -/
def enc (g : GroupId) (u : NodeAddr) : Ident :=
  (g.setWidth 29 <<< 18) ||| u.setWidth 29

/-- DEC_EXT(x) = (x >> 18, x & 0x3FFFF) (42_read.md R110). -/
def decExt (x : Ident) : GroupId × NodeAddr :=
  ((x >>> 18).setWidth 11, (x &&& 0x3FFFF#29).setWidth 18)

/-- DEC_STD(x) = (x, 0) for the 11 bits of a non-extended identifier (42_read.md R111). -/
def decStd (x : GroupId) : GroupId × NodeAddr :=
  (x, 0#18)

/-- The identifier of a received record, decoded by the format its `ext` field names; a non-extended record wires only
`ident[10:0]` into DEC_STD (42_read.md R112 step 4, R114; 30_encoding.md R65, R69). -/
def decodeIdent (f : Frame) : GroupId × NodeAddr :=
  if f.ext then decExt f.ident else decStd (f.ident.setWidth 11)

/-- Whether a received record keeps the driver's contract: a non-extended identifier has `ident[28:11]` = 0
(42_read.md R114). -/
def rxLegal (f : Frame) : Bool :=
  f.ext || f.ident.extractLsb' 11 18 == 0#18

/-- `op_id[10:0]`, the bits of SEND's group id that reach the identifier (30_encoding.md R68, 41_codec_send.md R103). -/
def groupOf (id : IdOperand) : GroupId :=
  id.setWidth 11

/-- `min(len, 8)`: byte counts clip and never wrap (30_encoding.md R69, 41_codec_send.md R105). -/
def clipLen (len : Nat) : Nat :=
  min len Config.payloadMax

/-- `zext_FW(id)` (43_filter.md R130). -/
def zextFilter (id : GroupId) : FilterWord :=
  id.setWidth 16

/-- `zext_18(uid_hash[15:0])` (40_init_identity.md R90). -/
def localAddr (hash : UidHash) : NodeAddr :=
  (hash.setWidth 16).setWidth 18

/-- The first n bytes of the lanes, in order (41_codec_send.md R102; 20_memory.md R43). -/
def payload (n : Nat) (lanes : Lanes) : List Byte :=
  lanes.toList.take n

/-- The lanes after bytes 0 to n - 1 are copied from `src`; the others stay as in `dst` (42_read.md R113). -/
def copyLanes (n : Nat) (src dst : Lanes) : Lanes :=
  Vector.ofFn fun i => if i.val < n then src[i] else dst[i]

/-- The `tx` record of SEND for an identifier, a `length` operand and the data lanes (41_codec_send.md R102). -/
def txRecord (ident : Ident) (len : LenOperand) (data : Lanes) : TxRecord :=
  { ext := true
    ident := ident
    len := BitVec.ofNat 4 (clipLen len.toNat)
    data := payload (clipLen len.toNat) data }

/-- The driver calls a `tx` record stands for: one packet begin, one write for each byte in order, one packet end
(41_codec_send.md R104). -/
def driverCalls (r : TxRecord) : List DriverCall :=
  .beginExtendedPacket r.ident :: (r.data.map .write ++ [.endPacket])

end Sys2Proof.Machine
end

