-- ==== Sys2Proof/Machine/State.lean ====
section
/-! DEFINITION. The state of the block (10_state.md), the label of a step (R32), the reasons a run can stop, and the
state after reset (70_reset_and_hazards.md R180). -/

namespace Sys2Proof.Machine

/-- PHASE (10_state.md R13). The value 3 is never written, so the type leaves it out (93_implementation_defined.md U25). -/
inductive Phase where
  | idle
  | starting
  | running
deriving DecidableEq, Repr

/-- The tag `rd_kind` of READ's result (42_read.md R116). -/
inductive RdKind where
  | noFrame
  | pass
  | matched
  | unmatched
deriving DecidableEq, Repr

/-- What MATCH reports for a group id (43_filter.md R130). -/
inductive MatchResult where
  | pass (v : FilterWord)
  | matched (v : FilterWord)
  | unmatched
deriving DecidableEq, Repr

/-- The label of a step: the result ports the step drives (`none` where it drives none) and the output events it emits,
in order (10_state.md R32; assumption log 12). -/
structure Label where
  ret : Option Bool := none
  rdValue : Option FilterWord := none
  rdKind : Option RdKind := none
  rfStored : Option Bool := none
  uuidOut : Option NodeAddr := none
  events : List OutEvent := []
deriving DecidableEq, Repr

/-- The registers of 10_state.md section 8, then the label of the last step and three fields of the model's own: the port
samples still to come, those that then come over and over, and the number of free values drawn (assumption logs 1, 5, 12
and 24). -/
structure State where
  /-- NODE_UUID (R12). -/
  nodeUuid : NodeAddr
  /-- PHASE (R13). -/
  phase : Phase
  /-- B_SPEED (R14). -/
  bSpeed : Speed
  /-- F_COUNT (R15). -/
  fCount : BitVec 4
  /-- F_MASK[0..7] (R16). -/
  fMask : Vector FilterWord 8
  /-- F_VAL[0..7] (R17). -/
  fVal : Vector FilterWord 8
  /-- T_TIMEOUT (R19). -/
  tTimeout : Millis
  /-- T_REMAIN (R20). -/
  tRemain : Millis
  /-- ALIVE (R21). -/
  alive : Bool
  /-- IND (R22). -/
  ind : Bool
  /-- MSG_ID (R26). -/
  msgId : GroupId
  /-- MSG_SRC (R27). -/
  msgSrc : NodeAddr
  /-- MSG_LEN (R28). -/
  msgLen : FrameLen
  /-- MSG_DATA[0..7] (R29). -/
  msgData : Lanes
  /-- The outputs of the step that has just completed (R32). -/
  label : Label
  /-- The model's: the samples the host and the environment present next, oldest first (R11). -/
  trace : List Sample
  /-- The model's: the samples presented over and over, in order, once `trace` is used up; none if host and environment then
  fall silent. An endless run, such as the START_FAILs of 40_init_identity.md R95, repeats them (assumption log 24). -/
  repeats : List Sample
  /-- The model's: how many free values have been drawn. -/
  draws : Nat
deriving DecidableEq, Repr

/-- The stuck state. The block itself never faults (60_exceptions.md R150). -/
inductive Fault where
  /-- Raised by every host command in PHASE = STARTING: the host is blocked inside `begin` and has no move
  (30_encoding.md R71, 93_implementation_defined.md U16). Safe: no run goes on (assumption log 10). -/
  | hostBlocked
deriving DecidableEq, Repr

/-- The situations the spec gives no meaning, which a model must refuse (00_scope.md R7). All are safe: no claim is made
about a run that contains one (assumption log 11). -/
inductive Refusal where
  /-- An operation without a meaning in this model; no arm answers it. Safe. -/
  | notModelled (mnemonic : String)
  /-- The sample selects no operation: raised by the step (30_encoding.md R72, U11, U12). Safe. -/
  | undecoded (why : DecodeError)
  /-- SEND or READ in PHASE = IDLE (30_encoding.md R71, U13). Safe. -/
  | notStarted
  /-- BEGIN in PHASE = RUNNING (30_encoding.md R71, U14). Safe. -/
  | alreadyStarted
  /-- START_OK or START_FAIL outside PHASE = STARTING (30_encoding.md R71, U15). Safe. -/
  | noAttemptOutstanding
  /-- A READ whose non-extended record has a bit of `ident[28:11]` set (42_read.md R114, U17). Safe. -/
  | malformedRecord
deriving DecidableEq, Repr

/-- The machine right after reset: NODE_UUID, PHASE and F_COUNT as 70_reset_and_hazards.md R180 says, every register it
calls unspecified at zero (DESIGN CHOICE, assumption log 4), nothing driven, nothing presented. -/
def State.reset : State :=
  { nodeUuid := localAddr Config.uidHash
    phase := .idle
    bSpeed := 0
    fCount := 0
    fMask := Vector.replicate 8 0
    fVal := Vector.replicate 8 0
    tTimeout := 0
    tRemain := 0
    alive := false
    ind := false
    msgId := 0
    msgSrc := 0
    msgLen := 0
    msgData := Vector.replicate 8 0
    label := {}
    trace := []
    repeats := []
    draws := 0 }

end Sys2Proof.Machine
end

