-- ==== Sys2Proof/Machine/Flags.lean ====
section
/-! DEFINITION. The one-bit and tag results: expiry and the liveness flag, the indicator, `rd_kind` and `rd_value`, the
return value of a registration, and the codes of the tags. -/

namespace Sys2Proof.Machine

/-- EXPIRED: the countdown has expired exactly when T_REMAIN = 0 (44_liveness.md R143). -/
def expired (remain : Millis) : Bool :=
  remain == 0#32

/-- The value READ gives ALIVE: true unless the countdown has expired (42_read.md R112 step 1). -/
def aliveFlag (remain : Millis) : Bool :=
  !expired remain

/-- `rd_kind` for a frame that is present (42_read.md R116). -/
def kindOf : MatchResult → RdKind
  | .pass _ => .pass
  | .matched _ => .matched
  | .unmatched => .unmatched

/-- `rd_value` for a frame that is present; the sentinel 0 when no entry matches (42_read.md R116). -/
def valueOf : MatchResult → FilterWord
  | .pass v => v
  | .matched v => v
  | .unmatched => 0#16

/-- IND after a READ that found a frame: turned on, and off again only when no entry matches (42_read.md R117). -/
def indAfter : MatchResult → Bool
  | .pass _ => true
  | .matched _ => true
  | .unmatched => false

/-- The drives of IND in a READ that found a frame, in order (42_read.md R112 steps 3 and 5; assumption log 15). -/
def indDrives : MatchResult → List OutEvent
  | .pass _ => [.indicator true]
  | .matched _ => [.indicator true]
  | .unmatched => [.indicator true, .indicator false]

/-- The documented return value of REGFILTER: F_COUNT >= 1, of the count after the update (43_filter.md R133). -/
def holdsEntry (count : BitVec 4) : Bool :=
  decide (1 ≤ count.toNat)

/-- The 2-bit code of PHASE (10_state.md R13). -/
def phaseCode : Phase → BitVec 2
  | .idle => 0#2
  | .starting => 1#2
  | .running => 2#2

/-- The 2-bit code of `rd_kind` (42_read.md R116, 60_exceptions.md R155). -/
def rdKindCode : RdKind → BitVec 2
  | .noFrame => 0#2
  | .pass => 1#2
  | .matched => 2#2
  | .unmatched => 3#2

end Sys2Proof.Machine
end

