-- ==== Sys2Proof/Machine/Ops.lean ====
section
/-! DEFINITION. The named operations over the registers, the acceptance of a step by phase, the draw of free values and
the taking of the next sample. The block has no exception to take and none to return from (60_exceptions.md R150, R159,
R160), and no memory (20_memory.md R40). -/

namespace Sys2Proof.Machine

/-- What a step of the block answers. -/
abbrev Result := Host.Outcome State Fault Refusal

/-! ## Acceptance by phase (30_encoding.md R71) -/

/-- BEGIN: accepted in IDLE; in STARTING the host has no move; in RUNNING refused. -/
def whenIdle (s : State) (r : Result) : Result :=
  match s.phase with
  | .idle => r
  | .starting => .fault .hostBlocked
  | .running => .refused .alreadyStarted

/-- SEND and READ: accepted in RUNNING; in STARTING the host has no move; in IDLE refused. -/
def whenRunning (s : State) (r : Result) : Result :=
  match s.phase with
  | .idle => .refused .notStarted
  | .starting => .fault .hostBlocked
  | .running => r

/-- The other commands: accepted in IDLE and RUNNING; in STARTING the host has no move. -/
def whenHostFree (s : State) (r : Result) : Result :=
  match s.phase with
  | .idle => r
  | .starting => .fault .hostBlocked
  | .running => r

/-- START_OK and START_FAIL: accepted in STARTING only; elsewhere no attempt is outstanding. -/
def whenStarting (s : State) (r : Result) : Result :=
  match s.phase with
  | .idle => .refused .noAttemptOutstanding
  | .starting => r
  | .running => .refused .noAttemptOutstanding

/-! ## The label, PHASE, B_SPEED and IND -/

/-- Complete a step with the outputs it drives (10_state.md R32). -/
def State.answer (s : State) (l : Label) : State :=
  { s with label := l }

/-- Write PHASE (10_state.md R13). -/
def State.enter (s : State) (p : Phase) : State :=
  { s with phase := p }

/-- Write B_SPEED (10_state.md R14). -/
def State.keepSpeed (s : State) (v : Speed) : State :=
  { s with bSpeed := v }

/-- Write IND (10_state.md R22). -/
def State.driveInd (s : State) (on : Bool) : State :=
  { s with ind := on }

/-! ## The filter table (10_state.md R15 to R18) -/

/-- F_COUNT <- 0; the slots keep their contents (43_filter.md R135). -/
def State.clearFilters (s : State) : State :=
  { s with fCount := 0#4 }

/-- Append an entry at slot F_COUNT if the table is not full; otherwise nothing (43_filter.md R133). -/
def State.appendFilter (s : State) (mask filt : FilterWord) : State :=
  if h : s.fCount.toNat < 8 then
    { s with
      fMask := s.fMask.set s.fCount.toNat mask h
      fVal := s.fVal.set s.fCount.toNat filt h
      fCount := s.fCount + 1#4 }
  else s

/-- Whether an append would be stored: F_COUNT < 8 (43_filter.md R133). -/
def State.hasRoom (s : State) : Bool :=
  decide (s.fCount.toNat < Config.filterCap)

/-- The registered entries, slots 0 to F_COUNT - 1 in insertion order, as (mask, value) pairs (10_state.md R15). -/
def State.entries (s : State) : List (FilterWord × FilterWord) :=
  (s.fMask.toList.zip s.fVal.toList).take s.fCount.toNat

/-- The scan of MATCH: the first entry whose masked comparison holds is reported (43_filter.md R130). -/
def scanEntries (id : GroupId) : List (FilterWord × FilterWord) → MatchResult
  | [] => .unmatched
  | (mask, filt) :: rest => if zextFilter id &&& mask = filt then .matched filt else scanEntries id rest

/-- MATCH: with no entry registered every id passes; otherwise the scan decides (43_filter.md R130). -/
def State.matchId (s : State) (id : GroupId) : MatchResult :=
  if s.fCount = 0#4 then .pass (zextFilter id) else scanEntries id s.entries

/-! ## The countdown and ALIVE (44_liveness.md) -/

/-- ARM(t) (44_liveness.md R141). -/
def State.arm (s : State) (t : Millis) : State :=
  { s with tTimeout := t, tRemain := t }

/-- RETRIGGER() (44_liveness.md R142). -/
def State.retrigger (s : State) : State :=
  { s with tRemain := s.tTimeout }

/-- One millisecond: T_REMAIN goes down by one and stops at 0 (44_liveness.md R144). -/
def State.countDown (s : State) : State :=
  { s with tRemain := if s.tRemain = 0#32 then 0#32 else s.tRemain - 1#32 }

/-- Write ALIVE (10_state.md R21). -/
def State.flagAlive (s : State) (b : Bool) : State :=
  { s with alive := b }

/-! ## The message buffer (10_state.md R26 to R29) -/

/-- The payload copy, the byte count and the decoded identifier of a frame (42_read.md R112 steps 3 and 4, R113). -/
def State.storeMessage (s : State) (f : Frame) : State :=
  { s with
    msgData := copyLanes (clipLen f.len.toNat) f.data s.msgData
    msgLen := BitVec.ofNat 4 (clipLen f.len.toNat)
    msgId := (decodeIdent f).1
    msgSrc := (decodeIdent f).2 }

/-! ## Free values (00_scope.md R7, `any value`) -/

/-- The free value k places after the last one drawn (assumption log 5). -/
def State.draw (s : State) (w k : Nat) : BitVec w :=
  Config.freeValue w (s.draws + k)

/-- Eight free values of width w from place k on (assumption log 5). -/
def State.drawEight (s : State) (w k : Nat) : Vector (BitVec w) 8 :=
  Vector.ofFn fun i => s.draw w (k + i.val)

/-- IND after the indicator's `begin(pin)`, which the spec leaves open (40_init_identity.md R92; assumption log 6). -/
def State.drawInd (s : State) : State :=
  { s with ind := s.draw 1 0 == 1#1, draws := s.draws + 1 }

/-- The registers RESET leaves at `any value` (40_init_identity.md R90, 70_reset_and_hazards.md R180), each with a free
value of its own; MSG_LEN keeps to its legal values 0 to 8 (10_state.md R28; assumption logs 5 and 7). -/
def State.drawUnspecified (s : State) : State :=
  { s with
    bSpeed := s.draw 32 0
    tTimeout := s.draw 32 1
    tRemain := s.draw 32 2
    alive := s.draw 1 3 == 1#1
    ind := s.draw 1 4 == 1#1
    msgId := s.draw 11 5
    msgSrc := s.draw 18 6
    msgLen := BitVec.ofNat 4 (clipLen (s.draw 4 7).toNat)
    msgData := s.drawEight 8 8
    fMask := s.drawEight 16 16
    fVal := s.drawEight 16 24
    draws := s.draws + 32 }

/-! ## The next sample -/

/-- The sample the ports carry next: the first of the trace or, once that is used up, the first of the samples that come
over and over, whose rest is then the trace (10_state.md R11, 40_init_identity.md R95; assumption logs 1 and 24). -/
def State.takeSample (s : State) : Option (Sample × State) :=
  match s.trace, s.repeats with
  | w :: rest, _ => some (w, { s with trace := rest })
  | [], w :: rest => some (w, { s with trace := rest })
  | [], [] => none

end Sys2Proof.Machine
end

