-- ==== Sys2Proof/Machine/Filter.lean ====
section
/-! DEFINITION. REGFILTER and CLEARFILTER (43_filter.md). -/

namespace Sys2Proof.Machine

/-- REGFILTER: the entry is appended if there is room; `ret` says whether the table holds an entry, `rf_stored` whether
this one was stored (43_filter.md R133). -/
def execRegFilter (mask filt : FilterWord) (s : State) : Result :=
  whenHostFree s <|
    let t := s.appendFilter mask filt
    .next (t.answer { ret := some (holdsEntry t.fCount), rfStored := some s.hasRoom })

/-- CLEARFILTER: F_COUNT <- 0, no result (43_filter.md R135). -/
def execClearFilter (s : State) : Result :=
  whenHostFree s <| .next (s.clearFilters.answer {})

end Sys2Proof.Machine
end

