-- ==== Sys2Proof/Machine/Liveness.lean ====
section
/-! DEFINITION. TICK, SETALIVE and ALIVE (44_liveness.md). -/

namespace Sys2Proof.Machine

/-- TICK: one millisecond has passed; accepted in every phase (44_liveness.md R144). -/
def execTick (s : State) : Result :=
  .next (s.countDown.answer {})

/-- SETALIVE: ARM with the operand; ALIVE is not written, no result (44_liveness.md R145). -/
def execSetAlive (timeout : Millis) (s : State) : Result :=
  whenHostFree s <| .next ((s.arm timeout).answer {})

/-- ALIVE: the register, not recomputed (44_liveness.md R146). -/
def execAlive (s : State) : Result :=
  whenHostFree s <| .next (s.answer { ret := some s.alive })

end Sys2Proof.Machine
end

