-- ==== Sys2Proof/Machine/Read.lean ====
section
/-! DEFINITION. READ (42_read.md): the five steps in the source's order. -/

namespace Sys2Proof.Machine

/-- READ step 1: ALIVE is updated before the bus is touched (42_read.md R112). -/
def State.updateAlive (s : State) : State :=
  s.flagAlive (aliveFlag s.tRemain)

/-- READ steps 3 and 4: the indicator goes on, the countdown is retriggered, the message buffer is filled
(42_read.md R112). -/
def State.receive (s : State) (f : Frame) : State :=
  ((s.driveInd true).retrigger).storeMessage f

/-- READ step 5: the result of the filter on the decoded group id, with the indicator off again when nothing matches
(42_read.md R112, R116, R117). -/
def State.report (s : State) (r : MatchResult) : State :=
  (s.driveInd (indAfter r)).answer
    { rdValue := some (valueOf r), rdKind := some (kindOf r), events := indDrives r }

/-- READ: with no frame only ALIVE changes; a frame outside the driver's contract is refused (42_read.md R114); any other
frame is received and then filtered (42_read.md R112). -/
def execRead (rx : Option Frame) (s : State) : Result :=
  whenRunning s <|
    match rx with
    | none => .next (s.updateAlive.answer { rdValue := some 0#16, rdKind := some .noFrame })
    | some f =>
      if rxLegal f then
        let r := s.updateAlive.receive f
        .next (r.report (r.matchId r.msgId))
      else .refused .malformedRecord

end Sys2Proof.Machine
end

