-- ==== Sys2Proof/Machine/Send.lean ====
section
/-! DEFINITION. SEND (41_codec_send.md). -/

namespace Sys2Proof.Machine

/-- SEND: one extended `tx` record with the group id's low 11 bits, NODE_UUID and at most eight bytes; `ret` is always 1
and no register changes (41_codec_send.md R102, R103). -/
def execSend (data : Lanes) (len : LenOperand) (id : IdOperand) (s : State) : Result :=
  whenRunning s <|
    .next (s.answer
      { ret := some true, events := [.tx (txRecord (enc (groupOf id) s.nodeUuid) len data)] })

end Sys2Proof.Machine
end

