-- ==== Sys2Proof/Machine/Startup.lean ====
section
/-! DEFINITION. Construction, start-up and identity: RESET, BEGIN, START_FAIL, START_OK, UUID (40_init_identity.md). -/

namespace Sys2Proof.Machine

/-- RESET: NODE_UUID is captured, PHASE is IDLE, F_COUNT is 0, every other register takes any value; accepted in every
phase (40_init_identity.md R90). -/
def execReset (uidHash : UidHash) (s : State) : Result :=
  .next ({ (s.drawUnspecified.clearFilters).enter .idle with nodeUuid := localAddr uidHash }.answer {})

/-- BEGIN: the indicator is initialised, then the first start attempt is made (40_init_identity.md R92). -/
def execBegin (speed : Speed) (pin : Pin) (s : State) : Result :=
  whenIdle s <|
    .next (((s.drawInd.keepSpeed speed).enter .starting).answer
      { events := [.indicatorBegin pin, .startReq speed] })

/-- START_FAIL: one blink, then the attempt is made again at the kept speed (40_init_identity.md R93). -/
def execStartFail (s : State) : Result :=
  whenStarting s <|
    .next (((s.driveInd true).driveInd false).answer
      { events := [.indicator true, .indicator false, .startReq s.bSpeed] })

/-- START_OK: the table is cleared, the countdown armed with the default, ALIVE set, the indicator turned off, and the
pending BEGIN returns 1 (40_init_identity.md R94). -/
def execStartOk (s : State) : Result :=
  whenStarting s <|
    .next (((((s.clearFilters.arm Config.aliveDefaultMs).flagAlive true).driveInd false).enter .running).answer
      { ret := some true, events := [.indicator false] })

/-- UUID: NODE_UUID on `uuid_out`; no register changes (40_init_identity.md R96). -/
def execUuid (s : State) : Result :=
  whenHostFree s <| .next (s.answer { uuidOut := some s.nodeUuid })

end Sys2Proof.Machine
end

