-- ==== Sys2Proof/Machine/Dispatch.lean ====
section
/-! DEFINITION. The meaning of every operation, one arm per constructor of `Instr` (30_encoding.md R70). -/

namespace Sys2Proof.Machine

def exec (i : Instr) (s : State) : Host.Outcome State Fault Refusal :=
  match i with
  | .cmdBegin speed pin => Sys2Proof.Machine.execBegin speed pin s
  | .cmdSend data len id => Sys2Proof.Machine.execSend data len id s
  | .cmdRead rx => Sys2Proof.Machine.execRead rx s
  | .cmdRegFilter mask filt => Sys2Proof.Machine.execRegFilter mask filt s
  | .cmdClearFilter => Sys2Proof.Machine.execClearFilter s
  | .cmdAlive => Sys2Proof.Machine.execAlive s
  | .cmdSetAlive timeout => Sys2Proof.Machine.execSetAlive timeout s
  | .cmdUuid => Sys2Proof.Machine.execUuid s
  | .evtReset uidHash => Sys2Proof.Machine.execReset uidHash s
  | .evtTick => Sys2Proof.Machine.execTick s
  | .evtStartOk => Sys2Proof.Machine.execStartOk s
  | .evtStartFail => Sys2Proof.Machine.execStartFail s

end Sys2Proof.Machine
end

