-- ==== Sys2Proof/Machine/Step.lean ====
section
/-! DEFINITION. One step: the next sample is taken, decoded and performed (10_state.md R11, 20_memory.md R46, R48). With no sample, or with no event pin asserted, nothing happens (30_encoding.md R67; assumption log 13). -/

namespace Sys2Proof.Machine

/-- One step of the block. -/
def step (s : State) : Host.Outcome State Fault Refusal :=
  match s.takeSample with
  | none => .next s
  | some (w, t) =>
    match decode w with
    | .step i => exec i t
    | .idle => .next t
    | .reject why => .refused (.undecoded why)

/-- The state in which the ports carry, next, the sample a number of the opcode table stands for (assumption logs 1
and 2). -/
def State.withFetchWord (s : State) (nbits w : Nat) : State :=
  { s with trace := tableSample nbits w :: s.trace }

end Sys2Proof.Machine
end

