-- ==== Sys2Proof/Safety.lean ====
section
/-! DEFINITION. The terms claims are stated in: the invariant of the machine, runs over a presented list of operations,
the parallel form of the comparator, start-ups that never end, the ticks since the last frame, and states that differ only where no rule reads. -/

namespace Sys2Proof.Machine

/-! ## The invariant -/

/-- A `tx` record as the block emits it: extended, bits 17 and 16 of the address field zero, at most eight bytes and as
many as `len` says (30_encoding.md R62, R64). -/
def LegalTx (r : TxRecord) : Prop :=
  r.ext = true ∧ r.ident.toNat / 65536 % 4 = 0 ∧ r.data.length = r.len.toNat ∧ r.len.toNat ≤ 8

/-- The invariant every step keeps: NODE_UUID has 16 significant bits (10_state.md R12), F_COUNT and MSG_LEN are at most
8 (R15, R28), a running countdown never exceeds its timeout (44_liveness.md R148), and what the last step emitted is
legal (30_encoding.md R62, R64). -/
def State.Inv (s : State) : Prop :=
  s.nodeUuid.toNat < 65536 ∧ s.fCount.toNat ≤ 8 ∧ s.msgLen.toNat ≤ 8 ∧
    (s.phase = .running → s.tRemain.toNat ≤ s.tTimeout.toNat) ∧
    ∀ r, OutEvent.tx r ∈ s.label.events → LegalTx r

/-! ## Runs -/

/-- The state in which the operations of a list are presented on the ports, in order, and nothing after them. -/
def State.presented (s : State) (ops : List Instr) : State :=
  { s with trace := ops.map encode }

/-- The machine, run for one step for each operation of the list it is presented with. -/
def runOps (ops : List Instr) (s : State) : Result :=
  Sys2Proof.core.run ops.length (s.presented ops)

/-- The machine, run for n steps with the first n samples of an endless feed presented in order. -/
def runFeed (feed : Nat → Sample) (n : Nat) (s : State) : Result :=
  Sys2Proof.core.run n { s with trace := (List.range n).map feed }

/-! ## A start attempt that is never answered with success (40_init_identity.md R95) -/

/-- A sample that leaves the host waiting inside `begin`: a failed attempt, a millisecond, or no event. -/
def keepsWaiting (w : Sample) : Bool :=
  match decode w with
  | .step i => decide (i = .evtStartFail ∨ i = .evtTick)
  | .idle => true
  | .reject _ => false

/-- The block is starting and every sample it will ever be presented with leaves the host waiting: some still to come, and
then others over and over for ever. -/
def State.StartsForever (s : State) : Prop :=
  s.phase = .starting ∧ s.repeats ≠ [] ∧ ∀ w ∈ s.trace ++ s.repeats, keepsWaiting w = true

/-! ## The comparator in parallel -/

/-- `hit[k]`: slot k is registered and its masked comparison holds (43_filter.md R132). -/
def State.hit (s : State) (id : GroupId) (k : Fin 8) : Bool :=
  decide (k.val < s.fCount.toNat) && (zextFilter id &&& s.fMask[k] == s.fVal[k])

/-- The comparator as a content-addressed structure: the smallest slot that hits decides (43_filter.md R132). -/
def State.parallelMatch (s : State) (id : GroupId) : MatchResult :=
  if s.fCount = 0#4 then .pass (zextFilter id)
  else
    match (List.finRange 8).find? (s.hit id) with
    | some k => .matched s.fVal[k]
    | none => .unmatched

/-! ## Liveness over a run -/

/-- The operations of a trace of 44_liveness.md R147: those that complete in PHASE = RUNNING and neither arm the countdown
nor reset the block. -/
def isPolling : Instr → Bool
  | .cmdBegin _ _ => false
  | .cmdSend _ _ _ => true
  | .cmdRead none => true
  | .cmdRead (some f) => rxLegal f
  | .cmdRegFilter _ _ => true
  | .cmdClearFilter => true
  | .cmdAlive => true
  | .cmdSetAlive _ => false
  | .cmdUuid => true
  | .evtReset _ => false
  | .evtTick => true
  | .evtStartOk => false
  | .evtStartFail => false

/-- How many TICKs have passed since the last READ that found a frame, `n` before the list begins. -/
def ticksSinceFrame : Nat → List Instr → Nat
  | n, [] => n
  | n, .evtTick :: ops => ticksSinceFrame (n + 1) ops
  | _, .cmdRead (some _) :: ops => ticksSinceFrame 0 ops
  | n, .cmdRead none :: ops => ticksSinceFrame n ops
  | n, .cmdBegin _ _ :: ops => ticksSinceFrame n ops
  | n, .cmdSend _ _ _ :: ops => ticksSinceFrame n ops
  | n, .cmdRegFilter _ _ :: ops => ticksSinceFrame n ops
  | n, .cmdClearFilter :: ops => ticksSinceFrame n ops
  | n, .cmdAlive :: ops => ticksSinceFrame n ops
  | n, .cmdSetAlive _ :: ops => ticksSinceFrame n ops
  | n, .cmdUuid :: ops => ticksSinceFrame n ops
  | n, .evtReset _ :: ops => ticksSinceFrame n ops
  | n, .evtStartOk :: ops => ticksSinceFrame n ops
  | n, .evtStartFail :: ops => ticksSinceFrame n ops

/-- How many TICKs have passed since the countdown was last loaded, after an operation that found `n` of them: a TICK adds
one, and SETALIVE, START_OK and a READ that finds a frame load it (44_liveness.md R141, R142, R144). -/
def ticksSinceLoad (n : Nat) : Instr → Nat
  | .evtTick => n + 1
  | .cmdRead (some _) => 0
  | .cmdSetAlive _ => 0
  | .evtStartOk => 0
  | .cmdRead none => n
  | .cmdBegin _ _ => n
  | .cmdSend _ _ _ => n
  | .cmdRegFilter _ _ => n
  | .cmdClearFilter => n
  | .cmdAlive => n
  | .cmdUuid => n
  | .evtReset _ => n
  | .evtStartFail => n

/-- The same count after the next step of a state, whatever sample it takes. -/
def State.ticksAfterStep (s : State) (n : Nat) : Nat :=
  match s.takeSample with
  | none => n
  | some (w, _) =>
    match decode w with
    | .step i => ticksSinceLoad n i
    | .idle => n
    | .reject _ => n

/-! ## What no rule reads -/

/-- The two states agree on everything but the contents of filter slots at and above F_COUNT, which are unreachable
(10_state.md R15, R16; 43_filter.md R135). -/
def State.AgreeOnReachable (s t : State) : Prop :=
  t = { s with fMask := t.fMask, fVal := t.fVal } ∧
    ∀ k : Fin 8, k.val < s.fCount.toNat → t.fMask[k] = s.fMask[k] ∧ t.fVal[k] = s.fVal[k]

/-- Two results of runs that an observer cannot tell apart: the same stop, or next states that agree on everything a rule
reads. -/
def SameResult : Result → Result → Prop
  | .next s, .next t => s.AgreeOnReachable t
  | .fault a, .fault b => a = b
  | .refused a, .refused b => a = b
  | .next _, .fault _ => False
  | .next _, .refused _ => False
  | .fault _, .next _ => False
  | .fault _, .refused _ => False
  | .refused _, .next _ => False
  | .refused _, .fault _ => False

/-- A record the environment may offer when it passes on a `tx` record: the same identifier and byte count, the record's
bytes in its first lanes, anything in the others (95_test_vectors.md P5). -/
def Carries (f : Frame) (r : TxRecord) : Prop :=
  f.ext = r.ext ∧ f.ident = r.ident ∧ f.len = r.len ∧
    ∀ k : Fin 8, k.val < r.data.length → r.data[k.val]? = some f.data[k]

end Sys2Proof.Machine
end

