-- ==== Sys2Proof/WellFormed.lean ====
section
/-! DEFINITION. Well-formed operations. Operand widths are carried by the types; the one check left is the duty of the
environment on the receive record of a READ (42_read.md R114). -/

namespace Sys2Proof

/-- A READ's record keeps the driver's contract; every other operand value is legal (30_encoding.md R73). -/
def Instr.wellFormed : Instr → Bool
  | .cmdBegin _ _ => true
  | .cmdSend _ _ _ => true
  | .cmdRead none => true
  | .cmdRead (some f) => Machine.rxLegal f
  | .cmdRegFilter _ _ => true
  | .cmdClearFilter => true
  | .cmdAlive => true
  | .cmdSetAlive _ => true
  | .cmdUuid => true
  | .evtReset _ => true
  | .evtTick => true
  | .evtStartOk => true
  | .evtStartFail => true

end Sys2Proof
end

