-- ==== Sys2Proof/Certificates/Slice0/Obligations.lean ====
section
/-! DEFINITION. The statements for the provers. Each docstring names the rule of spec/ it formalises, or says what is
the spec's own decision or inference, or the model's choice, and names the log entry. -/

open Sys2Proof Sys2Proof.Machine

/-! ## Decoding and the step -/

/-- A step whose next sample decodes to an operation is that operation, performed at the state with the sample taken: the
first of the trace or, once that is used up, the first of the samples that come over and over (20_memory.md section 4;
10_state.md section 1; the two lists in State are the model's, logs 1 and 24). -/
def Obligations.StepRunsDecodedOperation : Prop :=
  ∀ (s : State) (w : Sample) (rest : List Sample) (i : Instr), decode w = .step i →
    (s.trace = w :: rest → step s = exec i { s with trace := rest }) ∧
      (s.trace = [] → s.repeats = w :: rest → step s = exec i { s with trace := rest })

/-- With no sample to take, or with no event pin asserted, nothing changes but the samples still to come (30_encoding.md
section 2 gives the pins 0b0000 as no event; that the label stays, and that a block presented with nothing idles, is the
model's choice, log 13). -/
def Obligations.StepWithoutOperationIdles : Prop :=
  ∀ s : State,
    (s.trace = [] → s.repeats = [] → step s = .next s) ∧
      ∀ (h : UidHash) (t : State), s.takeSample = some (.evt 0b0000#4 h, t) → step s = .next t ∧ t = { s with trace := t.trace }

/-- Reserved `cmd_op` values 0 and 9 to 15 and two or more asserted event pins are refused (30_encoding.md section 5, the
spec's decision D26; the refusals' names are the model's, log 11). -/
def Obligations.ReservedSamplesRefused : Prop :=
  ∀ s t : State,
    (∀ (op : Code) (p : CmdPorts) (rx : Option Frame),
      s.takeSample = some (.cmd op p rx, t) → op.toNat = 0 ∨ 9 ≤ op.toNat →
        step s = .refused (.undecoded (.reservedOpcode op))) ∧
    ∀ (pins : Code) (h : UidHash),
      s.takeSample = some (.evt pins h, t) →
        (∃ a b : Fin 4, a ≠ b ∧ pins.getLsbD a.val = true ∧ pins.getLsbD b.val = true) →
          step s = .refused (.undecoded (.multipleEvents pins))

/-- Decoding what was encoded gives the operation back, with every operand at every value, and a sample that decodes to an
operation carries that operation's code on that operation's port (30_encoding.md section 4; the codes are the spec's
decision D2, D3). -/
def Obligations.DecodeEncodeAgree : Prop :=
  (∀ i : Instr, decode (encode i) = .step i) ∧
    ∀ (w : Sample) (i : Instr), decode w = .step i →
      match w, encode i with
      | .cmd op _ _, .cmd op' _ _ => op = op'
      | .evt pins _, .evt pins' _ => pins = pins'
      | .cmd _ _ _, .evt _ _ => False
      | .evt _ _, .cmd _ _ _ => False

/-- Samples written out from the operation map decode to the operations they stand for (30_encoding.md section 4). -/
def Obligations.OperationMapSamples : Prop :=
  decode (.cmd 0b0001#4 { idlePorts with speed := 500000#32, pin := 13#8 } none) = .step (.cmdBegin 500000#32 13#8) ∧
  decode (.cmd 0b0010#4 { idlePorts with data := #v[1, 2, 3, 4, 5, 6, 7, 8], len := 8#8, id := 0x7FF#16 } none)
    = .step (.cmdSend #v[1, 2, 3, 4, 5, 6, 7, 8] 8#8 0x7FF#16) ∧
  decode (.cmd 0b0100#4 { idlePorts with mask := 0x7F0#16, filt := 0x120#16 } none)
    = .step (.cmdRegFilter 0x7F0#16 0x120#16) ∧
  decode (.cmd 0b0111#4 { idlePorts with timeout := 1000#32 } none) = .step (.cmdSetAlive 1000#32) ∧
  decode (.cmd 0b1000#4 idlePorts none) = .step .cmdUuid ∧
  decode (.evt 0b1000#4 0x1234BEEF#32) = .step (.evtReset 0x1234BEEF#32) ∧
  decode (.evt 0b0100#4 0#32) = .step .evtTick

/-! ## The codec and SEND -/

/-- R100: ENC(g, u) is g * 262144 + u, below 2^29, and the two fields do not overlap, so `|` and `+` agree. -/
def Obligations.EncoderPacksFields : Prop :=
  ∀ (g : GroupId) (u : NodeAddr),
    (enc g u).toNat = g.toNat * 262144 + u.toNat ∧ (enc g u).toNat < 2 ^ 29 ∧
      (g.toNat <<< 18) ||| u.toNat = g.toNat * 262144 + u.toNat

/-- R110: DEC_EXT(x) is (x >> 18, x & 0x3FFFF), the fields x[28:18] and x[17:0], and it undoes ENC. -/
def Obligations.DecoderSplitsExtended : Prop :=
  (∀ x : Ident,
    (decExt x).1.toNat = x.toNat >>> 18 ∧ (decExt x).2.toNat = x.toNat &&& 0x3FFFF ∧
      (decExt x).1 = x.extractLsb 28 18 ∧ (decExt x).2 = x.extractLsb 17 0) ∧
    ∀ (g : GroupId) (u : NodeAddr), decExt (enc g u) = (g, u)

/-- R111: DEC_STD(x) is (x, 0), with the example of identifier 0x123. -/
def Obligations.DecoderTakesStandard : Prop :=
  (∀ x : GroupId, decStd x = (x, 0#18)) ∧ decStd 0x123#11 = (0x123#11, 0#18)

/-- The codec is a bijection that keeps the lexicographic order of (group, address) (41_codec_send.md section 1; the
converse ENC(DEC_EXT(x)) = x is marked there as derived). -/
def Obligations.CodecRoundTripOrder : Prop :=
  (∀ (g : GroupId) (u : NodeAddr), decExt (enc g u) = (g, u)) ∧
    (∀ x : Ident, enc (decExt x).1 (decExt x).2 = x) ∧
    ∀ (g g' : GroupId) (u u' : NodeAddr),
      (enc g u).toNat < (enc g' u').toNat ↔ g.toNat < g'.toNat ∨ (g = g' ∧ u.toNat < u'.toNat)

/-- R102: SEND is `cmd_op` 2, is accepted in RUNNING only, emits one extended record with the low 11 bits of `id`, the
node's address and the first min(length, 8) bytes in order, returns 1 and changes no register. -/
def Obligations.SendEmitsRecord : Prop :=
  (∀ (p : CmdPorts) (rx : Option Frame), decode (.cmd 2#4 p rx) = .step (.cmdSend p.data p.len p.id)) ∧
  ∀ (data : Lanes) (len : LenOperand) (id : IdOperand) (s : State),
    (s.phase = .running → ∃ r : TxRecord,
      exec (.cmdSend data len id) s = .next { s with label := { ret := some true, events := [.tx r] } } ∧
      r.ext = true ∧ r.ident.toNat = (id.toNat % 2048) * 262144 + s.nodeUuid.toNat ∧
      r.len.toNat = min len.toNat 8 ∧ r.data.length = min len.toNat 8 ∧
      ∀ k : Fin 8, k.val < min len.toNat 8 → r.data[k.val]? = some data[k]) ∧
    (s.phase ≠ .running → ∀ t, exec (.cmdSend data len id) s ≠ .next t)

/-- What SEND drops cannot be seen: group ids equal modulo 2048, lengths with the same clip and lanes that agree on the
bytes sent give the same step (41_codec_send.md section 2; that an oversized id is truncated is the spec's decision D5,
log 19). -/
def Obligations.SendTruncatesSilently : Prop :=
  ∀ (data data' : Lanes) (len len' : LenOperand) (id id' : IdOperand) (s : State),
    id.toNat % 2048 = id'.toNat % 2048 → min len.toNat 8 = min len'.toNat 8 →
      (∀ k : Fin 8, k.val < min len.toNat 8 → data[k] = data'[k]) →
        exec (.cmdSend data len id) s = exec (.cmdSend data' len' id') s

/-- SEND's record stands for one packet begin with the identifier, one write for each byte sent, in order, and one packet
end (41_codec_send.md section 2). -/
def Obligations.SendDriverCallSequence : Prop :=
  ∀ (data : Lanes) (len : LenOperand) (id : IdOperand) (s : State), s.phase = .running →
    ∃ (t : State) (r : TxRecord), exec (.cmdSend data len id) s = .next t ∧ t.label.events = [.tx r] ∧
      (driverCalls r).length = min len.toNat 8 + 2 ∧
      (driverCalls r)[0]? = some (.beginExtendedPacket r.ident) ∧
      (∀ k : Fin 8, k.val < min len.toNat 8 → (driverCalls r)[k.val + 1]? = some (.write data[k])) ∧
      (driverCalls r)[min len.toNat 8 + 1]? = some .endPacket

/-! ## READ -/

/-- R112: READ is `cmd_op` 3, is accepted in RUNNING only; without a frame it writes ALIVE alone and answers NOFRAME and 0;
with a frame (whose identifier fits its format) ALIVE is written from the countdown before the retrigger, the countdown is
reloaded, the payload, count and decoded identifier are stored, and MATCH decides the result and the indicator. -/
def Obligations.ReadPollsAndFilters : Prop :=
  (∀ (p : CmdPorts) (rx : Option Frame), decode (.cmd 3#4 p rx) = .step (.cmdRead rx)) ∧
  ∀ s : State,
    (s.phase = .running →
      exec (.cmdRead none) s = .next { s with
        alive := decide (s.tRemain ≠ 0#32)
        label := { rdKind := some .noFrame, rdValue := some 0#16 } }) ∧
    (s.phase = .running → ∀ f : Frame, f.ext = true ∨ f.ident.toNat < 2048 →
      ∃ t, exec (.cmdRead (some f)) s = .next t ∧
        t = { s with
          alive := decide (s.tRemain ≠ 0#32), tRemain := s.tTimeout, ind := t.ind, msgId := t.msgId, msgSrc := t.msgSrc
          msgLen := t.msgLen, msgData := t.msgData, label := t.label } ∧
        t.msgLen.toNat = min f.len.toNat 8 ∧
        (∀ k : Fin 8, t.msgData[k] = if k.val < min f.len.toNat 8 then f.data[k] else s.msgData[k]) ∧
        (f.ext = true → t.msgId.toNat = f.ident.toNat / 262144 ∧ t.msgSrc.toNat = f.ident.toNat % 262144) ∧
        (f.ext = false → t.msgId.toNat = f.ident.toNat ∧ t.msgSrc = 0#18) ∧
        match s.matchId t.msgId with
        | .pass v => t.ind = true ∧
            t.label = { rdKind := some .pass, rdValue := some v, events := t.label.events }
        | .matched v => t.ind = true ∧
            t.label = { rdKind := some .matched, rdValue := some v, events := t.label.events }
        | .unmatched => t.ind = false ∧
            t.label = { rdKind := some .unmatched, rdValue := some 0#16, events := t.label.events }) ∧
    (s.phase ≠ .running → ∀ rx t, exec (.cmdRead rx) s ≠ .next t)

/-- A non-extended record with a bit above bit 10 is refused (42_read.md section 2, the spec's decision D16; the refusal's
name is the model's, log 11). -/
def Obligations.ReadRefusesMalformedRecord : Prop :=
  ∀ (f : Frame) (s : State), s.phase = .running → f.ext = false → 2048 ≤ f.ident.toNat →
    exec (.cmdRead (some f)) s = .refused .malformedRecord

/-- The indicator in READ: on for a frame, off again only when nothing matches, untouched without a frame; and the drives
of IND in that order (42_read.md section 2, marked derived; that the drives stand in the label is the model's choice,
log 15). -/
def Obligations.ReadIndicatorDrives : Prop :=
  ∀ s : State, s.phase = .running →
    (∃ t, exec (.cmdRead none) s = .next t ∧ t.ind = s.ind ∧ t.label.events = []) ∧
    ∀ f : Frame, f.ext = true ∨ f.ident.toNat < 2048 →
      ∃ t, exec (.cmdRead (some f)) s = .next t ∧
        (t.label.rdKind = some .unmatched → t.ind = false ∧ t.label.events = [.indicator true, .indicator false]) ∧
        (t.label.rdKind ≠ some .unmatched → t.ind = true ∧ t.label.events = [.indicator true])

/-- The frame that ends a silence is read with ALIVE = 0, and ALIVE is 1 only at the READ after it, if no TICK exhausts the
new window in between (42_read.md section 2; 70_reset_and_hazards.md section 3, marked derived). -/
def Obligations.SilenceEndingFrameReadDead : Prop :=
  ∀ (f : Frame) (s : State), s.phase = .running → f.ext = true ∨ f.ident.toNat < 2048 → s.tRemain = 0#32 →
    ∃ t, runOps [.cmdRead (some f)] s = .next t ∧ t.alive = false ∧
      ∀ n : Nat, n < s.tTimeout.toNat →
        ∃ u, runOps (List.replicate n .evtTick ++ [.cmdRead none]) t = .next u ∧ u.alive = true

/-! ## The filter comparator -/

/-- R130: with F_COUNT = 0 the id passes unmodified; otherwise the value of the first registered slot whose masked
comparison holds is reported, and without one nothing matches. -/
def Obligations.MatchFirstRegistered : Prop :=
  ∀ (s : State) (id : GroupId),
    (s.fCount = 0#4 → ∃ v, s.matchId id = .pass v ∧ v.toNat = id.toNat) ∧
    (∀ k : Fin 8, k.val < s.fCount.toNat → id.setWidth 16 &&& s.fMask[k] = s.fVal[k] →
      (∀ j : Fin 8, j < k → id.setWidth 16 &&& s.fMask[j] ≠ s.fVal[j]) → s.matchId id = .matched s.fVal[k]) ∧
    (s.fCount ≠ 0#4 → (∀ k : Fin 8, k.val < s.fCount.toNat → id.setWidth 16 &&& s.fMask[k] ≠ s.fVal[k]) →
      s.matchId id = .unmatched)

/-- The sequential scan equals the parallel comparator that takes the smallest hit (43_filter.md section 1, marked
derived). -/
def Obligations.ScanEqualsParallelComparator : Prop :=
  ∀ (s : State) (id : GroupId), s.matchId id = s.parallelMatch id

/-- What one entry (mask, value) can match (43_filter.md section 1, marked derived): the bits under the mask; never with a
value bit outside the mask or above bit 10; mask 0 matches all or nothing; mask 0x7FF one id; a reported value is the id
under the mask. -/
def Obligations.FilterEntryProperties : Prop :=
  ∀ (id : GroupId) (m f : FilterWord),
    (f &&& ~~~m = 0#16 → (scanEntries id [(m, f)] = .matched f ↔
      ∀ k : Fin 16, m.getLsbD k.val = true → (id.setWidth 16).getLsbD k.val = f.getLsbD k.val)) ∧
    (f &&& ~~~m ≠ 0#16 → scanEntries id [(m, f)] = .unmatched) ∧
    (2048 ≤ f.toNat → scanEntries id [(m, f)] = .unmatched) ∧
    scanEntries id [(0#16, 0#16)] = .matched 0#16 ∧
    (f ≠ 0#16 → scanEntries id [(0#16, f)] = .unmatched) ∧
    (scanEntries id [(0x7FF#16, f)] = .matched f ↔ f.toNat = id.toNat) ∧
    ∀ v, scanEntries id [(m, f)] = .matched v → v = f ∧ v = id.setWidth 16 &&& m

/-- REGFILTER is `cmd_op` 4, is accepted in IDLE and RUNNING, stores the pair at slot F_COUNT while F_COUNT < 8 and else
stores nothing; `ret` is 1 either way and `rf_stored` tells the cases apart (43_filter.md section 2; the tag is the spec's
decision D8). -/
def Obligations.RegFilterAppends : Prop :=
  (∀ (p : CmdPorts) (rx : Option Frame), decode (.cmd 4#4 p rx) = .step (.cmdRegFilter p.mask p.filt)) ∧
  ∀ (mask filt : FilterWord) (s : State),
    (s.phase ≠ .starting → s.fCount.toNat < 8 →
      ∃ t, exec (.cmdRegFilter mask filt) s = .next t ∧
        t = { s with
          fCount := t.fCount, fMask := t.fMask, fVal := t.fVal
          label := { ret := some true, rfStored := some true } } ∧
        t.fCount.toNat = s.fCount.toNat + 1 ∧
        ∀ k : Fin 8,
          (t.fMask[k] = if k.val = s.fCount.toNat then mask else s.fMask[k]) ∧
          (t.fVal[k] = if k.val = s.fCount.toNat then filt else s.fVal[k])) ∧
    (s.phase ≠ .starting → 8 ≤ s.fCount.toNat →
      exec (.cmdRegFilter mask filt) s = .next { s with label := { ret := some true, rfStored := some false } }) ∧
    (s.phase = .starting → ∀ t, exec (.cmdRegFilter mask filt) s ≠ .next t)

/-- R135: CLEARFILTER is `cmd_op` 5, is accepted in IDLE and RUNNING, sets F_COUNT to 0, leaves the slots' contents and
every other register, and has no result. -/
def Obligations.ClearFilterEmptiesTable : Prop :=
  (∀ (p : CmdPorts) (rx : Option Frame), decode (.cmd 5#4 p rx) = .step .cmdClearFilter) ∧
  ∀ s : State,
    (s.phase ≠ .starting → exec .cmdClearFilter s = .next { s with fCount := 0#4, label := {} }) ∧
    (s.phase = .starting → ∀ t, exec .cmdClearFilter s ≠ .next t)

/-- From an empty table, registering any list of entries stores exactly the first eight of them in order and drops the
rest; `ret` is 1 after every call, and the last call is stored exactly when the list has at most eight (43_filter.md
section 2; 70_reset_and_hazards.md section 3, marked derived; `rf_stored` is the spec's decision D8). -/
def Obligations.RegistrationStopsAtCapacity : Prop :=
  ∀ (l : List (FilterWord × FilterWord)) (s : State), s.phase ≠ .starting → s.fCount = 0#4 →
    ∃ t, runOps (l.map fun e => .cmdRegFilter e.1 e.2) s = .next t ∧
      t = { s with
        fCount := t.fCount, fMask := t.fMask, fVal := t.fVal, label := t.label, trace := [] } ∧
      t.fCount.toNat = min l.length 8 ∧
      (∀ k : Fin 8, (l[k.val]? = none → t.fMask[k] = s.fMask[k] ∧ t.fVal[k] = s.fVal[k]) ∧
        ∀ e, l[k.val]? = some e → t.fMask[k] = e.1 ∧ t.fVal[k] = e.2) ∧
      (l ≠ [] → t.label = { ret := some true, rfStored := some (decide (l.length ≤ 8)) })

/-- R136: only REGFILTER, CLEARFILTER, START_OK and RESET write the table; the last three leave F_COUNT = 0; and no step but
RESET changes a registered entry's slot, nor does any other step shrink the table. -/
def Obligations.FilterTableWriters : Prop :=
  ∀ (i : Instr) (s t : State), exec i s = .next t →
    (t.fCount ≠ s.fCount ∨ t.fMask ≠ s.fMask ∨ t.fVal ≠ s.fVal →
      (∃ m f, i = .cmdRegFilter m f) ∨ i = .cmdClearFilter ∨ i = .evtStartOk ∨ ∃ h, i = .evtReset h) ∧
    (i = .cmdClearFilter ∨ i = .evtStartOk ∨ (∃ h, i = .evtReset h) → t.fCount = 0#4) ∧
    ((∀ h, i ≠ .evtReset h) → ∀ k : Fin 8, k.val < s.fCount.toNat →
      t.fMask[k] = s.fMask[k] ∧ t.fVal[k] = s.fVal[k]) ∧
    (i ≠ .cmdClearFilter → i ≠ .evtStartOk → (∀ h, i ≠ .evtReset h) → s.fCount.toNat ≤ t.fCount.toNat)

/-! ## Liveness -/

/-- TICK is the pins 0b0100, is accepted in every phase, takes one from T_REMAIN, stops at 0 and changes nothing else
(44_liveness.md section 2, the spec's decisions D3 and D9). -/
def Obligations.TickCountsDown : Prop :=
  (∀ h : UidHash, decode (.evt 4#4 h) = .step .evtTick) ∧
  ∀ s : State, ∃ t, exec .evtTick s = .next t ∧ t = { s with tRemain := t.tRemain, label := {} } ∧
    t.tRemain.toNat = s.tRemain.toNat - 1

/-- R145: SETALIVE is `cmd_op` 7, is accepted in IDLE and RUNNING, loads T_TIMEOUT and T_REMAIN with the operand, leaves ALIVE
and every other register, and has no result. -/
def Obligations.SetAliveArms : Prop :=
  (∀ (p : CmdPorts) (rx : Option Frame), decode (.cmd 7#4 p rx) = .step (.cmdSetAlive p.timeout)) ∧
  ∀ (timeout : Millis) (s : State),
    (s.phase ≠ .starting →
      exec (.cmdSetAlive timeout) s = .next { s with tTimeout := timeout, tRemain := timeout, label := {} }) ∧
    (s.phase = .starting → ∀ t, exec (.cmdSetAlive timeout) s ≠ .next t)

/-- R146: ALIVE is `cmd_op` 6, is accepted in IDLE and RUNNING, returns the ALIVE register and changes no register. -/
def Obligations.AliveReturnsFlag : Prop :=
  (∀ (p : CmdPorts) (rx : Option Frame), decode (.cmd 6#4 p rx) = .step .cmdAlive) ∧
  ∀ s : State,
    (s.phase ≠ .starting → exec .cmdAlive s = .next { s with label := { ret := some s.alive } }) ∧
    (s.phase = .starting → ∀ t, exec .cmdAlive s ≠ .next t)

/-- After SETALIVE with any timeout and any number of TICKs the countdown holds what is left, and it has expired exactly when
at least that many TICKs have passed; the flag ALIVE has not moved (44_liveness.md section 1, the spec's decisions D9 and
D27, log 21). -/
def Obligations.CountdownExpiresAfterTimeout : Prop :=
  ∀ (timeout : Millis) (n : Nat) (s : State), s.phase ≠ .starting →
    ∃ t, runOps (.cmdSetAlive timeout :: List.replicate n .evtTick) s = .next t ∧
      t.tTimeout = timeout ∧ t.tRemain.toNat = timeout.toNat - n ∧ t.alive = s.alive ∧
      (expired t.tRemain = true ↔ timeout.toNat ≤ n)

/-- The liveness law over a whole run: from a freshly loaded countdown, after any operations that complete in RUNNING and
neither arm the countdown nor reset the block, the next READ writes ALIVE = 1 exactly when fewer TICKs than the timeout
have passed since the last READ that found a frame (44_liveness.md section 5, marked derived). -/
def Obligations.LivenessLawOverRuns : Prop :=
  ∀ (ops : List Instr) (rx : Option Frame) (s : State),
    s.phase = .running → s.tRemain = s.tTimeout → (∀ i ∈ ops, isPolling i = true) → isPolling (.cmdRead rx) = true →
    ∃ t, runOps (ops ++ [.cmdRead rx]) s = .next t ∧ t.phase = .running ∧ t.tTimeout = s.tTimeout ∧
      (t.alive = true ↔ ticksSinceFrame 0 ops < s.tTimeout.toNat)

/-- The countdown as an invariant of every step: T_REMAIN is T_TIMEOUT less the TICKs since it was last loaded, stopping at 0.
RESET alone is left out, since it leaves both registers at any value (44_liveness.md sections 1, 2 and 5). -/
def Obligations.CountdownTracksTicks : Prop :=
  ∀ (s t : State) (n : Nat), s.tRemain.toNat = s.tTimeout.toNat - n → step s = .next t →
    (∀ w u h, s.takeSample = some (w, u) → decode w ≠ .step (.evtReset h)) →
      t.tRemain.toNat = t.tTimeout.toNat - s.ticksAfterStep n

/-- A TICK and a command wanted at the same time may be taken in either order (60_exceptions.md section 3, the spec's decision
D25, log 14); only READ, SETALIVE, START_OK and RESET can tell which came first, because TICK writes T_REMAIN alone and no
other operation reads or writes it (44_liveness.md section 2; 10_state.md sections 4 and 8). -/
def Obligations.TickOrderUnseenByOthers : Prop :=
  ∀ (c : Instr) (s u : State), exec c s = .next u →
    (∀ rx, c ≠ .cmdRead rx) → (∀ v, c ≠ .cmdSetAlive v) → c ≠ .evtStartOk → (∀ h, c ≠ .evtReset h) →
    ∃ t, runOps [.evtTick, c] s = .next t ∧ runOps [c, .evtTick] s = .next { t with label := {} }

/-! ## Construction, start-up and identity -/

/-- RESET is the pins 0b1000, is accepted in every phase, captures the low 16 bits of the hash, enters IDLE, empties the
table, drives and emits nothing; nothing is said of the registers left at any value (40_init_identity.md section 1; PHASE and
F_COUNT are the spec's decisions D11 and D13, log 23). -/
def Obligations.ResetEventConstructs : Prop :=
  (∀ h : UidHash, decode (.evt 8#4 h) = .step (.evtReset h)) ∧
  ∀ (h : UidHash) (s : State), ∃ t, exec (.evtReset h) s = .next t ∧
    t.nodeUuid.toNat = h.toNat % 65536 ∧ t.phase = .idle ∧ t.fCount = 0#4 ∧ t.label = {} ∧ t.trace = s.trace

/-- The state after reset: NODE_UUID is the low 16 bits of the board's hash, PHASE is IDLE, F_COUNT is 0
(70_reset_and_hazards.md section 1, the spec's decisions D13 and D14; the hash is a parameter, log 3). -/
def Obligations.ResetStateDefinedRegisters : Prop :=
  State.reset.nodeUuid.toNat = Config.uidHash.toNat % 65536 ∧ State.reset.phase = .idle ∧ State.reset.fCount = 0#4

/-- R92: BEGIN is `cmd_op` 1, is accepted in IDLE only, initialises the indicator and then asks for the first start at the
given speed, keeps the speed, enters STARTING, leaves IND open, drives no result and changes no other register. -/
def Obligations.BeginStartsAttempt : Prop :=
  (∀ (p : CmdPorts) (rx : Option Frame), decode (.cmd 1#4 p rx) = .step (.cmdBegin p.speed p.pin)) ∧
  ∀ (speed : Speed) (pin : Pin) (s : State),
    (s.phase = .idle → ∃ t, exec (.cmdBegin speed pin) s = .next t ∧
      t = { s with
        phase := .starting, bSpeed := speed, ind := t.ind, draws := t.draws
        label := { events := [.indicatorBegin pin, .startReq speed] } }) ∧
    (s.phase ≠ .idle → ∀ t, exec (.cmdBegin speed pin) s ≠ .next t)

/-- START_FAIL is the pins 0b0001, is accepted in STARTING only, blinks IND and leaves it 0, asks again at the kept speed and
changes no other register (40_init_identity.md section 2, the blink is the spec's decision D19; the drives in the label are
the model's choice, log 15). -/
def Obligations.StartFailBlinksAndRetries : Prop :=
  (∀ h : UidHash, decode (.evt 1#4 h) = .step .evtStartFail) ∧
  ∀ s : State,
    (s.phase = .starting → exec .evtStartFail s = .next { s with
      ind := false
      label := { events := [.indicator true, .indicator false, .startReq s.bSpeed] } }) ∧
    (s.phase ≠ .starting → exec .evtStartFail s = .refused .noAttemptOutstanding)

/-- START_OK is the pins 0b0010, is accepted in STARTING only, empties the table, arms the countdown with ALIVE_DEFAULT_MS
whatever it is, sets ALIVE, clears IND, enters RUNNING, returns 1 for the pending BEGIN and changes no other register
(40_init_identity.md section 2; ALIVE is the spec's decision D12, log 23; the drive of IND in the label is log 15). -/
def Obligations.StartOkCompletesBegin : Prop :=
  (∀ h : UidHash, decode (.evt 2#4 h) = .step .evtStartOk) ∧
  ∀ s : State,
    (s.phase = .starting → exec .evtStartOk s = .next { s with
      fCount := 0#4, tTimeout := Config.aliveDefaultMs, tRemain := Config.aliveDefaultMs, alive := true, ind := false
      phase := .running
      label := { ret := some true, events := [.indicator false] } }) ∧
    (s.phase ≠ .starting → exec .evtStartOk s = .refused .noAttemptOutstanding)

/-- R96: UUID is `cmd_op` 8, is accepted in IDLE and RUNNING, gives NODE_UUID and changes no register; right after RESET
that is the low 16 bits of the hash, with bits 17 and 16 zero. -/
def Obligations.UuidReturnsAddress : Prop :=
  (∀ (p : CmdPorts) (rx : Option Frame), decode (.cmd 8#4 p rx) = .step .cmdUuid) ∧
  ∀ s : State,
    (s.phase ≠ .starting → exec .cmdUuid s = .next { s with label := { uuidOut := some s.nodeUuid } }) ∧
    (s.phase = .starting → ∀ t, exec .cmdUuid s ≠ .next t) ∧
    ∀ (h : UidHash) (t : State), exec (.evtReset h) s = .next t →
      exec .cmdUuid t = .next { t with label := { uuidOut := some (BitVec.ofNat 18 (h.toNat % 65536)) } }

/-- `begin` as a whole: after BEGIN and any number of failed attempts the block is still starting and still asks at the given
speed, for ever if need be; one START_OK after them ends the call with 1 and leaves the state every successful start-up
guarantees (40_init_identity.md section 2 and 70_reset_and_hazards.md section 1, marked derived). -/
def Obligations.BeginRetriesUntilStarted : Prop :=
  ∀ (speed : Speed) (pin : Pin) (n : Nat) (s : State), s.phase = .idle →
    (∃ t, runOps (.cmdBegin speed pin :: List.replicate n .evtStartFail) s = .next t ∧
      t.phase = .starting ∧ t.bSpeed = speed ∧ .startReq speed ∈ t.label.events) ∧
    ∃ t, runOps (.cmdBegin speed pin :: (List.replicate n .evtStartFail ++ [.evtStartOk])) s = .next t ∧
      t = { s with
        phase := .running, bSpeed := speed, fCount := 0#4, tTimeout := Config.aliveDefaultMs
        tRemain := Config.aliveDefaultMs, alive := true, ind := false, label := t.label, trace := [], draws := t.draws } ∧
      t.label.ret = some true

/-- The endless start as an invariant: while every sample to come, for ever, leaves the host waiting, each step completes, leaves
the block so, keeps the speed, drives no result, and each failed attempt asks again (40_init_identity.md section 2, marked
derived; the samples that come over and over are the model's, log 24). -/
def Obligations.StartsForeverKept : Prop :=
  ∀ s : State, s.StartsForever →
    ∃ t, step s = .next t ∧ t.StartsForever ∧ t.bSpeed = s.bSpeed ∧ (s.label.ret = none → t.label.ret = none) ∧
      ∀ w u, s.takeSample = some (w, u) → decode w = .step .evtStartFail → .startReq s.bSpeed ∈ t.label.events

/-- The run of `begin` that never returns: BEGIN, then START_FAIL over and over; after every number of steps the block is
starting, has just asked at the given speed, and has returned nothing (40_init_identity.md section 2, marked derived; the
samples that come over and over are the model's, log 24). The last clause also fixes what each START_FAIL emits: the blink is
the spec's decision D19, and that its drives of IND stand in the label, in order, is the model's choice, log 15. -/
def Obligations.BeginMayNeverReturn : Prop :=
  ∀ (speed : Speed) (pin : Pin) (s : State), s.phase = .idle →
    ∀ n : Nat, ∃ t,
      Sys2Proof.core.run (n + 1)
        { s with trace := [encode (.cmdBegin speed pin)], repeats := [encode .evtStartFail] } = (.next t : Result) ∧
      t.phase = .starting ∧ t.bSpeed = speed ∧ t.label.ret = none ∧ .startReq speed ∈ t.label.events ∧
      (n ≠ 0 → t.ind = false ∧
        t.label.events = [.indicator true, .indicator false, .startReq speed])

/-- Whatever the pattern in which failed attempts, TICKs and idle samples follow each other without end, the block waits at
every point of the run (40_init_identity.md section 2, marked derived). -/
def Obligations.UnansweredStartWaits : Prop :=
  ∀ (feed : Nat → Sample) (s : State), s.phase = .starting → (∀ k, keepsWaiting (feed k) = true) →
    ∀ n : Nat, ∃ t, runFeed feed n s = .next t ∧ t.phase = .starting ∧ t.bSpeed = s.bSpeed

/-- The phases move only as the spec says, and nothing but START_OK or RESET ever leaves STARTING (60_exceptions.md section
5, the spec's decision D11; 40_init_identity.md section 2, marked derived). -/
def Obligations.PhaseMovesOnlyAsSpecified : Prop :=
  (∀ (i : Instr) (s t : State), exec i s = .next t →
    t.phase = s.phase ∨
    (s.phase = .idle ∧ t.phase = .starting ∧ ∃ v p, i = .cmdBegin v p) ∨
    (s.phase = .starting ∧ t.phase = .running ∧ i = .evtStartOk) ∨
    (t.phase = .idle ∧ ∃ h, i = .evtReset h)) ∧
  ∀ s t : State, step s = .next t → s.phase = .starting → t.phase ≠ .starting →
    ∃ w u, s.takeSample = some (w, u) ∧ (decode w = .step .evtStartOk ∨ ∃ h, decode w = .step (.evtReset h))

/-- What each phase admits, for every operation: it completes, it is refused by name, or the host has no move
(30_encoding.md section 4, the spec's decisions D11 and D24; the names of the stops are the model's, logs 10 and 11). -/
def Obligations.AcceptanceByPhase : Prop :=
  ∀ (i : Instr) (s : State), i.wellFormed = true →
    match i, s.phase with
    | .cmdBegin _ _, .idle => ∃ t, exec i s = .next t
    | .cmdBegin _ _, .starting => exec i s = .fault .hostBlocked
    | .cmdBegin _ _, .running => exec i s = .refused .alreadyStarted
    | .cmdSend _ _ _, .idle => exec i s = .refused .notStarted
    | .cmdSend _ _ _, .starting => exec i s = .fault .hostBlocked
    | .cmdSend _ _ _, .running => ∃ t, exec i s = .next t
    | .cmdRead _, .idle => exec i s = .refused .notStarted
    | .cmdRead _, .starting => exec i s = .fault .hostBlocked
    | .cmdRead _, .running => ∃ t, exec i s = .next t
    | .cmdRegFilter _ _, .starting => exec i s = .fault .hostBlocked
    | .cmdRegFilter _ _, _ => ∃ t, exec i s = .next t
    | .cmdClearFilter, .starting => exec i s = .fault .hostBlocked
    | .cmdClearFilter, _ => ∃ t, exec i s = .next t
    | .cmdAlive, .starting => exec i s = .fault .hostBlocked
    | .cmdAlive, _ => ∃ t, exec i s = .next t
    | .cmdSetAlive _, .starting => exec i s = .fault .hostBlocked
    | .cmdSetAlive _, _ => ∃ t, exec i s = .next t
    | .cmdUuid, .starting => exec i s = .fault .hostBlocked
    | .cmdUuid, _ => ∃ t, exec i s = .next t
    | .evtReset _, _ => ∃ t, exec i s = .next t
    | .evtTick, _ => ∃ t, exec i s = .next t
    | .evtStartOk, .starting => ∃ t, exec i s = .next t
    | .evtStartOk, _ => exec i s = .refused .noAttemptOutstanding
    | .evtStartFail, .starting => ∃ t, exec i s = .next t
    | .evtStartFail, _ => exec i s = .refused .noAttemptOutstanding

/-! ## Who writes what -/

/-- NODE_UUID is written by RESET alone, and B_SPEED by BEGIN and RESET alone (10_state.md sections 2 and 8). -/
def Obligations.IdentityAndSpeedWriters : Prop :=
  ∀ (i : Instr) (s t : State), exec i s = .next t →
    (t.nodeUuid ≠ s.nodeUuid → ∃ h, i = .evtReset h) ∧
    (t.bSpeed ≠ s.bSpeed → (∃ v p, i = .cmdBegin v p) ∨ ∃ h, i = .evtReset h)

/-- ALIVE is written by READ, START_OK and RESET alone, so it is stale between READs whatever the TICKs and SETALIVE do;
T_TIMEOUT by SETALIVE, START_OK and RESET; T_REMAIN also by TICK and by a READ that finds a frame (10_state.md sections 4
and 8; 70_reset_and_hazards.md section 3). -/
def Obligations.LivenessRegisterWriters : Prop :=
  ∀ (i : Instr) (s t : State), exec i s = .next t →
    (t.alive ≠ s.alive → (∃ rx, i = .cmdRead rx) ∨ i = .evtStartOk ∨ ∃ h, i = .evtReset h) ∧
    (t.tTimeout ≠ s.tTimeout → (∃ v, i = .cmdSetAlive v) ∨ i = .evtStartOk ∨ ∃ h, i = .evtReset h) ∧
    (t.tRemain ≠ s.tRemain →
      (∃ v, i = .cmdSetAlive v) ∨ i = .evtStartOk ∨ i = .evtTick ∨ (∃ f, i = .cmdRead (some f)) ∨ ∃ h, i = .evtReset h)

/-- IND is written by BEGIN, START_FAIL, START_OK, RESET and a READ that finds a frame alone; the message buffer by RESET and
a READ that finds a frame alone (10_state.md sections 5, 6 and 8). -/
def Obligations.OutputRegisterWriters : Prop :=
  ∀ (i : Instr) (s t : State), exec i s = .next t →
    (t.ind ≠ s.ind → (∃ v p, i = .cmdBegin v p) ∨ i = .evtStartFail ∨ i = .evtStartOk ∨
      (∃ f, i = .cmdRead (some f)) ∨ ∃ h, i = .evtReset h) ∧
    (t.msgId ≠ s.msgId ∨ t.msgSrc ≠ s.msgSrc ∨ t.msgLen ≠ s.msgLen ∨ t.msgData ≠ s.msgData →
      (∃ f, i = .cmdRead (some f)) ∨ ∃ h, i = .evtReset h)

/-! ## Whole-machine properties -/

/-- Every step keeps the invariant: NODE_UUID has 16 significant bits, F_COUNT and MSG_LEN are at most 8, a running countdown
is at most its timeout, and what was just emitted is a legal extended record (10_state.md sections 2, 3 and 6;
30_encoding.md section 1, marked derived; 44_liveness.md section 5; that RESET draws a legal MSG_LEN is log 7). -/
def Obligations.StepKeepsInvariant : Prop :=
  ∀ s t : State, s.Inv → step s = .next t → t.Inv

/-- The invariant holds right after reset (70_reset_and_hazards.md section 1; the values of the unspecified registers are
the model's, log 4, and the clause on MSG_LEN rests on one of them). -/
def Obligations.ResetSatisfiesInvariant : Prop :=
  State.reset.Inv

/-- The contents of filter slots at and above F_COUNT can never be observed: machines that differ only there answer alike at
every step of any run, and still differ only there (10_state.md section 3; 43_filter.md section 3). -/
def Obligations.UnreachableSlotsUnobservable : Prop :=
  ∀ (n : Nat) (s t : State), s.AgreeOnReachable t →
    SameResult (Sys2Proof.core.run n s) (Sys2Proof.core.run n t)

/-- What one node sends another node reads: any record the environment makes of the sender's `tx` gives the reader the
sender's group id, cut to 11 bits, the sender's address, the byte count and the bytes (41_codec_send.md section 1; the cut is
section 2 there, the spec's decision D5, log 19; 95_test_vectors.md EX1 and P5, whose passing on of frames is an assumption
there). -/
def Obligations.SentFrameReadsBack : Prop :=
  ∀ (a b : State) (data : Lanes) (len : LenOperand) (id : IdOperand), a.phase = .running → b.phase = .running →
    ∃ r : TxRecord,
      exec (.cmdSend data len id) a = .next { a with label := { ret := some true, events := [.tx r] } } ∧
      ∀ f : Frame, Carries f r →
        ∃ t, exec (.cmdRead (some f)) b = .next t ∧ t.msgId.toNat = id.toNat % 2048 ∧ t.msgSrc = a.nodeUuid ∧
          t.msgLen.toNat = min len.toNat 8 ∧
          ∀ k : Fin 8, k.val < min len.toNat 8 → t.msgData[k] = data[k]
end

