-- ==== Sys2Proof/Laws/Operands.lean ====
section
/-! SUPPORT. What the operand functions compute, each said once. -/

namespace Sys2Proof.Machine

theorem or_eq_add_of_fields {a b : Nat} (h : b < 262144) : (a <<< 18) ||| b = a * 262144 + b := by
  have := Nat.two_pow_add_eq_or_of_lt (i := 18) h a
  rw [Nat.shiftLeft_eq, Nat.mul_comm a]
  omega

/-- ENC as a number (41_codec_send.md R100). -/
theorem enc_toNat (g : GroupId) (u : NodeAddr) : (enc g u).toNat = g.toNat * 262144 + u.toNat := by
  have hg := g.isLt
  have hu := u.isLt
  have hs : g.toNat <<< 18 < 2 ^ 29 := by rw [Nat.shiftLeft_eq]; omega
  have e := or_eq_add_of_fields (a := g.toNat) (b := u.toNat) (by omega)
  have h1 : g.toNat % 536870912 = g.toNat := Nat.mod_eq_of_lt (by omega)
  have h2 : u.toNat % 536870912 = u.toNat := Nat.mod_eq_of_lt (by omega)
  have h3 : g.toNat <<< 18 % 536870912 = g.toNat <<< 18 := Nat.mod_eq_of_lt (by omega)
  simp [enc, h1, h2, h3, e]

theorem decExt_fst_toNat (x : Ident) : (decExt x).1.toNat = x.toNat / 262144 := by
  have hx := x.isLt
  simp [decExt, Nat.shiftRight_eq_div_pow]
  omega

theorem decExt_snd_toNat (x : Ident) : (decExt x).2.toNat = x.toNat % 262144 := by
  have e : x.toNat % 262144 &&& 262143 = x.toNat % 262144 % 262144 :=
    Nat.and_two_pow_sub_one_eq_mod (x.toNat % 262144) 18
  simp [decExt, e]

theorem groupOf_toNat (id : IdOperand) : (groupOf id).toNat = id.toNat % 2048 := by
  simp [groupOf]

theorem zextFilter_toNat (id : GroupId) : (zextFilter id).toNat = id.toNat := by
  have h := id.isLt
  simp [zextFilter]
  omega

theorem localAddr_toNat (h : UidHash) : (localAddr h).toNat = h.toNat % 65536 := by
  simp [localAddr]
  omega

theorem clipLen_eq (n : Nat) : clipLen n = min n 8 := rfl

theorem clipLen_le (n : Nat) : clipLen n ≤ 8 := Nat.min_le_right n 8

theorem clipLen_field_toNat (n : Nat) : (BitVec.ofNat 4 (clipLen n)).toNat = min n 8 := by
  have h := clipLen_le n
  simp [clipLen_eq]

/-- A record keeps the driver's contract exactly when a non-extended identifier is below 2^11 (42_read.md R114). -/
theorem rxLegal_iff (f : Frame) : rxLegal f = true ↔ f.ext = true ∨ f.ident.toNat < 2048 := by
  have hx := f.ident.isLt
  unfold rxLegal
  rw [Bool.or_eq_true, beq_iff_eq]
  have : f.ident.extractLsb' 11 18 = 0#18 ↔ f.ident.toNat < 2048 := by
    rw [← BitVec.toNat_inj]
    simp [Nat.shiftRight_eq_div_pow]
    omega
  rw [this]

theorem decodeIdent_ext (f : Frame) (h : f.ext = true) :
    (decodeIdent f).1.toNat = f.ident.toNat / 262144 ∧ (decodeIdent f).2.toNat = f.ident.toNat % 262144 := by
  simp only [decodeIdent, h, if_true]
  exact ⟨decExt_fst_toNat _, decExt_snd_toNat _⟩

theorem decodeIdent_std (f : Frame) (h : f.ext = false) :
    (decodeIdent f).1.toNat = f.ident.toNat % 2048 ∧ (decodeIdent f).2 = 0#18 := by
  simp [decodeIdent, h, decStd]

theorem payload_length (n : Nat) (d : Lanes) : (payload n d).length = min n 8 := by
  simp [payload]

theorem payload_getElem? (n : Nat) (d : Lanes) (k : Fin 8) (h : k.val < n) : (payload n d)[k.val]? = some d[k] := by
  simp [payload, h]

theorem copyLanes_getElem (n : Nat) (src dst : Lanes) (k : Fin 8) :
    (copyLanes n src dst)[k] = if k.val < n then src[k] else dst[k] := by
  simp [copyLanes]

/-- The record SEND emits (41_codec_send.md R102). -/
theorem txRecord_spec (ident : Ident) (len : LenOperand) (data : Lanes) :
    (txRecord ident len data).ext = true ∧ (txRecord ident len data).ident = ident ∧
      (txRecord ident len data).len.toNat = min len.toNat 8 ∧
      (txRecord ident len data).data.length = min len.toNat 8 ∧
      ∀ k : Fin 8, k.val < min len.toNat 8 → (txRecord ident len data).data[k.val]? = some data[k] := by
  refine ⟨rfl, rfl, clipLen_field_toNat _, ?_, fun k hk => payload_getElem? _ _ _ hk⟩
  show (payload _ _).length = _
  rw [payload_length, clipLen_eq]
  omega

end Sys2Proof.Machine
end

