-- ==== Sys2Proof/Laws/State.lean ====
section
/-! SUPPORT. One lemma for each field under each named update of the state: what the update writes and what it leaves. -/

namespace Sys2Proof.Machine

/-! ### answer -/

@[simp] theorem answer_nodeUuid (s : State) (l : Label) : (s.answer l).nodeUuid = s.nodeUuid := rfl
@[simp] theorem answer_phase (s : State) (l : Label) : (s.answer l).phase = s.phase := rfl
@[simp] theorem answer_bSpeed (s : State) (l : Label) : (s.answer l).bSpeed = s.bSpeed := rfl
@[simp] theorem answer_fCount (s : State) (l : Label) : (s.answer l).fCount = s.fCount := rfl
@[simp] theorem answer_fMask (s : State) (l : Label) : (s.answer l).fMask = s.fMask := rfl
@[simp] theorem answer_fVal (s : State) (l : Label) : (s.answer l).fVal = s.fVal := rfl
@[simp] theorem answer_tTimeout (s : State) (l : Label) : (s.answer l).tTimeout = s.tTimeout := rfl
@[simp] theorem answer_tRemain (s : State) (l : Label) : (s.answer l).tRemain = s.tRemain := rfl
@[simp] theorem answer_alive (s : State) (l : Label) : (s.answer l).alive = s.alive := rfl
@[simp] theorem answer_ind (s : State) (l : Label) : (s.answer l).ind = s.ind := rfl
@[simp] theorem answer_msgId (s : State) (l : Label) : (s.answer l).msgId = s.msgId := rfl
@[simp] theorem answer_msgSrc (s : State) (l : Label) : (s.answer l).msgSrc = s.msgSrc := rfl
@[simp] theorem answer_msgLen (s : State) (l : Label) : (s.answer l).msgLen = s.msgLen := rfl
@[simp] theorem answer_msgData (s : State) (l : Label) : (s.answer l).msgData = s.msgData := rfl
@[simp] theorem answer_label (s : State) (l : Label) : (s.answer l).label = l := rfl
@[simp] theorem answer_trace (s : State) (l : Label) : (s.answer l).trace = s.trace := rfl
@[simp] theorem answer_repeats (s : State) (l : Label) : (s.answer l).repeats = s.repeats := rfl
@[simp] theorem answer_draws (s : State) (l : Label) : (s.answer l).draws = s.draws := rfl

/-! ### enter -/

@[simp] theorem enter_nodeUuid (s : State) (p : Phase) : (s.enter p).nodeUuid = s.nodeUuid := rfl
@[simp] theorem enter_phase (s : State) (p : Phase) : (s.enter p).phase = p := rfl
@[simp] theorem enter_bSpeed (s : State) (p : Phase) : (s.enter p).bSpeed = s.bSpeed := rfl
@[simp] theorem enter_fCount (s : State) (p : Phase) : (s.enter p).fCount = s.fCount := rfl
@[simp] theorem enter_fMask (s : State) (p : Phase) : (s.enter p).fMask = s.fMask := rfl
@[simp] theorem enter_fVal (s : State) (p : Phase) : (s.enter p).fVal = s.fVal := rfl
@[simp] theorem enter_tTimeout (s : State) (p : Phase) : (s.enter p).tTimeout = s.tTimeout := rfl
@[simp] theorem enter_tRemain (s : State) (p : Phase) : (s.enter p).tRemain = s.tRemain := rfl
@[simp] theorem enter_alive (s : State) (p : Phase) : (s.enter p).alive = s.alive := rfl
@[simp] theorem enter_ind (s : State) (p : Phase) : (s.enter p).ind = s.ind := rfl
@[simp] theorem enter_msgId (s : State) (p : Phase) : (s.enter p).msgId = s.msgId := rfl
@[simp] theorem enter_msgSrc (s : State) (p : Phase) : (s.enter p).msgSrc = s.msgSrc := rfl
@[simp] theorem enter_msgLen (s : State) (p : Phase) : (s.enter p).msgLen = s.msgLen := rfl
@[simp] theorem enter_msgData (s : State) (p : Phase) : (s.enter p).msgData = s.msgData := rfl
@[simp] theorem enter_label (s : State) (p : Phase) : (s.enter p).label = s.label := rfl
@[simp] theorem enter_trace (s : State) (p : Phase) : (s.enter p).trace = s.trace := rfl
@[simp] theorem enter_repeats (s : State) (p : Phase) : (s.enter p).repeats = s.repeats := rfl
@[simp] theorem enter_draws (s : State) (p : Phase) : (s.enter p).draws = s.draws := rfl

/-! ### keepSpeed -/

@[simp] theorem keepSpeed_nodeUuid (s : State) (v : Speed) : (s.keepSpeed v).nodeUuid = s.nodeUuid := rfl
@[simp] theorem keepSpeed_phase (s : State) (v : Speed) : (s.keepSpeed v).phase = s.phase := rfl
@[simp] theorem keepSpeed_bSpeed (s : State) (v : Speed) : (s.keepSpeed v).bSpeed = v := rfl
@[simp] theorem keepSpeed_fCount (s : State) (v : Speed) : (s.keepSpeed v).fCount = s.fCount := rfl
@[simp] theorem keepSpeed_fMask (s : State) (v : Speed) : (s.keepSpeed v).fMask = s.fMask := rfl
@[simp] theorem keepSpeed_fVal (s : State) (v : Speed) : (s.keepSpeed v).fVal = s.fVal := rfl
@[simp] theorem keepSpeed_tTimeout (s : State) (v : Speed) : (s.keepSpeed v).tTimeout = s.tTimeout := rfl
@[simp] theorem keepSpeed_tRemain (s : State) (v : Speed) : (s.keepSpeed v).tRemain = s.tRemain := rfl
@[simp] theorem keepSpeed_alive (s : State) (v : Speed) : (s.keepSpeed v).alive = s.alive := rfl
@[simp] theorem keepSpeed_ind (s : State) (v : Speed) : (s.keepSpeed v).ind = s.ind := rfl
@[simp] theorem keepSpeed_msgId (s : State) (v : Speed) : (s.keepSpeed v).msgId = s.msgId := rfl
@[simp] theorem keepSpeed_msgSrc (s : State) (v : Speed) : (s.keepSpeed v).msgSrc = s.msgSrc := rfl
@[simp] theorem keepSpeed_msgLen (s : State) (v : Speed) : (s.keepSpeed v).msgLen = s.msgLen := rfl
@[simp] theorem keepSpeed_msgData (s : State) (v : Speed) : (s.keepSpeed v).msgData = s.msgData := rfl
@[simp] theorem keepSpeed_label (s : State) (v : Speed) : (s.keepSpeed v).label = s.label := rfl
@[simp] theorem keepSpeed_trace (s : State) (v : Speed) : (s.keepSpeed v).trace = s.trace := rfl
@[simp] theorem keepSpeed_repeats (s : State) (v : Speed) : (s.keepSpeed v).repeats = s.repeats := rfl
@[simp] theorem keepSpeed_draws (s : State) (v : Speed) : (s.keepSpeed v).draws = s.draws := rfl

/-! ### driveInd -/

@[simp] theorem driveInd_nodeUuid (s : State) (on : Bool) : (s.driveInd on).nodeUuid = s.nodeUuid := rfl
@[simp] theorem driveInd_phase (s : State) (on : Bool) : (s.driveInd on).phase = s.phase := rfl
@[simp] theorem driveInd_bSpeed (s : State) (on : Bool) : (s.driveInd on).bSpeed = s.bSpeed := rfl
@[simp] theorem driveInd_fCount (s : State) (on : Bool) : (s.driveInd on).fCount = s.fCount := rfl
@[simp] theorem driveInd_fMask (s : State) (on : Bool) : (s.driveInd on).fMask = s.fMask := rfl
@[simp] theorem driveInd_fVal (s : State) (on : Bool) : (s.driveInd on).fVal = s.fVal := rfl
@[simp] theorem driveInd_tTimeout (s : State) (on : Bool) : (s.driveInd on).tTimeout = s.tTimeout := rfl
@[simp] theorem driveInd_tRemain (s : State) (on : Bool) : (s.driveInd on).tRemain = s.tRemain := rfl
@[simp] theorem driveInd_alive (s : State) (on : Bool) : (s.driveInd on).alive = s.alive := rfl
@[simp] theorem driveInd_ind (s : State) (on : Bool) : (s.driveInd on).ind = on := rfl
@[simp] theorem driveInd_msgId (s : State) (on : Bool) : (s.driveInd on).msgId = s.msgId := rfl
@[simp] theorem driveInd_msgSrc (s : State) (on : Bool) : (s.driveInd on).msgSrc = s.msgSrc := rfl
@[simp] theorem driveInd_msgLen (s : State) (on : Bool) : (s.driveInd on).msgLen = s.msgLen := rfl
@[simp] theorem driveInd_msgData (s : State) (on : Bool) : (s.driveInd on).msgData = s.msgData := rfl
@[simp] theorem driveInd_label (s : State) (on : Bool) : (s.driveInd on).label = s.label := rfl
@[simp] theorem driveInd_trace (s : State) (on : Bool) : (s.driveInd on).trace = s.trace := rfl
@[simp] theorem driveInd_repeats (s : State) (on : Bool) : (s.driveInd on).repeats = s.repeats := rfl
@[simp] theorem driveInd_draws (s : State) (on : Bool) : (s.driveInd on).draws = s.draws := rfl

/-! ### clearFilters -/

@[simp] theorem clearFilters_nodeUuid (s : State) : (s.clearFilters).nodeUuid = s.nodeUuid := rfl
@[simp] theorem clearFilters_phase (s : State) : (s.clearFilters).phase = s.phase := rfl
@[simp] theorem clearFilters_bSpeed (s : State) : (s.clearFilters).bSpeed = s.bSpeed := rfl
@[simp] theorem clearFilters_fCount (s : State) : (s.clearFilters).fCount = 0#4 := rfl
@[simp] theorem clearFilters_fMask (s : State) : (s.clearFilters).fMask = s.fMask := rfl
@[simp] theorem clearFilters_fVal (s : State) : (s.clearFilters).fVal = s.fVal := rfl
@[simp] theorem clearFilters_tTimeout (s : State) : (s.clearFilters).tTimeout = s.tTimeout := rfl
@[simp] theorem clearFilters_tRemain (s : State) : (s.clearFilters).tRemain = s.tRemain := rfl
@[simp] theorem clearFilters_alive (s : State) : (s.clearFilters).alive = s.alive := rfl
@[simp] theorem clearFilters_ind (s : State) : (s.clearFilters).ind = s.ind := rfl
@[simp] theorem clearFilters_msgId (s : State) : (s.clearFilters).msgId = s.msgId := rfl
@[simp] theorem clearFilters_msgSrc (s : State) : (s.clearFilters).msgSrc = s.msgSrc := rfl
@[simp] theorem clearFilters_msgLen (s : State) : (s.clearFilters).msgLen = s.msgLen := rfl
@[simp] theorem clearFilters_msgData (s : State) : (s.clearFilters).msgData = s.msgData := rfl
@[simp] theorem clearFilters_label (s : State) : (s.clearFilters).label = s.label := rfl
@[simp] theorem clearFilters_trace (s : State) : (s.clearFilters).trace = s.trace := rfl
@[simp] theorem clearFilters_repeats (s : State) : (s.clearFilters).repeats = s.repeats := rfl
@[simp] theorem clearFilters_draws (s : State) : (s.clearFilters).draws = s.draws := rfl

/-! ### arm -/

@[simp] theorem arm_nodeUuid (s : State) (v : Millis) : (s.arm v).nodeUuid = s.nodeUuid := rfl
@[simp] theorem arm_phase (s : State) (v : Millis) : (s.arm v).phase = s.phase := rfl
@[simp] theorem arm_bSpeed (s : State) (v : Millis) : (s.arm v).bSpeed = s.bSpeed := rfl
@[simp] theorem arm_fCount (s : State) (v : Millis) : (s.arm v).fCount = s.fCount := rfl
@[simp] theorem arm_fMask (s : State) (v : Millis) : (s.arm v).fMask = s.fMask := rfl
@[simp] theorem arm_fVal (s : State) (v : Millis) : (s.arm v).fVal = s.fVal := rfl
@[simp] theorem arm_tTimeout (s : State) (v : Millis) : (s.arm v).tTimeout = v := rfl
@[simp] theorem arm_tRemain (s : State) (v : Millis) : (s.arm v).tRemain = v := rfl
@[simp] theorem arm_alive (s : State) (v : Millis) : (s.arm v).alive = s.alive := rfl
@[simp] theorem arm_ind (s : State) (v : Millis) : (s.arm v).ind = s.ind := rfl
@[simp] theorem arm_msgId (s : State) (v : Millis) : (s.arm v).msgId = s.msgId := rfl
@[simp] theorem arm_msgSrc (s : State) (v : Millis) : (s.arm v).msgSrc = s.msgSrc := rfl
@[simp] theorem arm_msgLen (s : State) (v : Millis) : (s.arm v).msgLen = s.msgLen := rfl
@[simp] theorem arm_msgData (s : State) (v : Millis) : (s.arm v).msgData = s.msgData := rfl
@[simp] theorem arm_label (s : State) (v : Millis) : (s.arm v).label = s.label := rfl
@[simp] theorem arm_trace (s : State) (v : Millis) : (s.arm v).trace = s.trace := rfl
@[simp] theorem arm_repeats (s : State) (v : Millis) : (s.arm v).repeats = s.repeats := rfl
@[simp] theorem arm_draws (s : State) (v : Millis) : (s.arm v).draws = s.draws := rfl

/-! ### retrigger -/

@[simp] theorem retrigger_nodeUuid (s : State) : (s.retrigger).nodeUuid = s.nodeUuid := rfl
@[simp] theorem retrigger_phase (s : State) : (s.retrigger).phase = s.phase := rfl
@[simp] theorem retrigger_bSpeed (s : State) : (s.retrigger).bSpeed = s.bSpeed := rfl
@[simp] theorem retrigger_fCount (s : State) : (s.retrigger).fCount = s.fCount := rfl
@[simp] theorem retrigger_fMask (s : State) : (s.retrigger).fMask = s.fMask := rfl
@[simp] theorem retrigger_fVal (s : State) : (s.retrigger).fVal = s.fVal := rfl
@[simp] theorem retrigger_tTimeout (s : State) : (s.retrigger).tTimeout = s.tTimeout := rfl
@[simp] theorem retrigger_tRemain (s : State) : (s.retrigger).tRemain = s.tTimeout := rfl
@[simp] theorem retrigger_alive (s : State) : (s.retrigger).alive = s.alive := rfl
@[simp] theorem retrigger_ind (s : State) : (s.retrigger).ind = s.ind := rfl
@[simp] theorem retrigger_msgId (s : State) : (s.retrigger).msgId = s.msgId := rfl
@[simp] theorem retrigger_msgSrc (s : State) : (s.retrigger).msgSrc = s.msgSrc := rfl
@[simp] theorem retrigger_msgLen (s : State) : (s.retrigger).msgLen = s.msgLen := rfl
@[simp] theorem retrigger_msgData (s : State) : (s.retrigger).msgData = s.msgData := rfl
@[simp] theorem retrigger_label (s : State) : (s.retrigger).label = s.label := rfl
@[simp] theorem retrigger_trace (s : State) : (s.retrigger).trace = s.trace := rfl
@[simp] theorem retrigger_repeats (s : State) : (s.retrigger).repeats = s.repeats := rfl
@[simp] theorem retrigger_draws (s : State) : (s.retrigger).draws = s.draws := rfl

/-! ### countDown -/

@[simp] theorem countDown_nodeUuid (s : State) : (s.countDown).nodeUuid = s.nodeUuid := rfl
@[simp] theorem countDown_phase (s : State) : (s.countDown).phase = s.phase := rfl
@[simp] theorem countDown_bSpeed (s : State) : (s.countDown).bSpeed = s.bSpeed := rfl
@[simp] theorem countDown_fCount (s : State) : (s.countDown).fCount = s.fCount := rfl
@[simp] theorem countDown_fMask (s : State) : (s.countDown).fMask = s.fMask := rfl
@[simp] theorem countDown_fVal (s : State) : (s.countDown).fVal = s.fVal := rfl
@[simp] theorem countDown_tTimeout (s : State) : (s.countDown).tTimeout = s.tTimeout := rfl
@[simp] theorem countDown_tRemain (s : State) : (s.countDown).tRemain = if s.tRemain = 0#32 then 0#32 else s.tRemain - 1#32 := rfl
@[simp] theorem countDown_alive (s : State) : (s.countDown).alive = s.alive := rfl
@[simp] theorem countDown_ind (s : State) : (s.countDown).ind = s.ind := rfl
@[simp] theorem countDown_msgId (s : State) : (s.countDown).msgId = s.msgId := rfl
@[simp] theorem countDown_msgSrc (s : State) : (s.countDown).msgSrc = s.msgSrc := rfl
@[simp] theorem countDown_msgLen (s : State) : (s.countDown).msgLen = s.msgLen := rfl
@[simp] theorem countDown_msgData (s : State) : (s.countDown).msgData = s.msgData := rfl
@[simp] theorem countDown_label (s : State) : (s.countDown).label = s.label := rfl
@[simp] theorem countDown_trace (s : State) : (s.countDown).trace = s.trace := rfl
@[simp] theorem countDown_repeats (s : State) : (s.countDown).repeats = s.repeats := rfl
@[simp] theorem countDown_draws (s : State) : (s.countDown).draws = s.draws := rfl

/-! ### flagAlive -/

@[simp] theorem flagAlive_nodeUuid (s : State) (b : Bool) : (s.flagAlive b).nodeUuid = s.nodeUuid := rfl
@[simp] theorem flagAlive_phase (s : State) (b : Bool) : (s.flagAlive b).phase = s.phase := rfl
@[simp] theorem flagAlive_bSpeed (s : State) (b : Bool) : (s.flagAlive b).bSpeed = s.bSpeed := rfl
@[simp] theorem flagAlive_fCount (s : State) (b : Bool) : (s.flagAlive b).fCount = s.fCount := rfl
@[simp] theorem flagAlive_fMask (s : State) (b : Bool) : (s.flagAlive b).fMask = s.fMask := rfl
@[simp] theorem flagAlive_fVal (s : State) (b : Bool) : (s.flagAlive b).fVal = s.fVal := rfl
@[simp] theorem flagAlive_tTimeout (s : State) (b : Bool) : (s.flagAlive b).tTimeout = s.tTimeout := rfl
@[simp] theorem flagAlive_tRemain (s : State) (b : Bool) : (s.flagAlive b).tRemain = s.tRemain := rfl
@[simp] theorem flagAlive_alive (s : State) (b : Bool) : (s.flagAlive b).alive = b := rfl
@[simp] theorem flagAlive_ind (s : State) (b : Bool) : (s.flagAlive b).ind = s.ind := rfl
@[simp] theorem flagAlive_msgId (s : State) (b : Bool) : (s.flagAlive b).msgId = s.msgId := rfl
@[simp] theorem flagAlive_msgSrc (s : State) (b : Bool) : (s.flagAlive b).msgSrc = s.msgSrc := rfl
@[simp] theorem flagAlive_msgLen (s : State) (b : Bool) : (s.flagAlive b).msgLen = s.msgLen := rfl
@[simp] theorem flagAlive_msgData (s : State) (b : Bool) : (s.flagAlive b).msgData = s.msgData := rfl
@[simp] theorem flagAlive_label (s : State) (b : Bool) : (s.flagAlive b).label = s.label := rfl
@[simp] theorem flagAlive_trace (s : State) (b : Bool) : (s.flagAlive b).trace = s.trace := rfl
@[simp] theorem flagAlive_repeats (s : State) (b : Bool) : (s.flagAlive b).repeats = s.repeats := rfl
@[simp] theorem flagAlive_draws (s : State) (b : Bool) : (s.flagAlive b).draws = s.draws := rfl

/-! ### storeMessage -/

@[simp] theorem storeMessage_nodeUuid (s : State) (f : Frame) : (s.storeMessage f).nodeUuid = s.nodeUuid := rfl
@[simp] theorem storeMessage_phase (s : State) (f : Frame) : (s.storeMessage f).phase = s.phase := rfl
@[simp] theorem storeMessage_bSpeed (s : State) (f : Frame) : (s.storeMessage f).bSpeed = s.bSpeed := rfl
@[simp] theorem storeMessage_fCount (s : State) (f : Frame) : (s.storeMessage f).fCount = s.fCount := rfl
@[simp] theorem storeMessage_fMask (s : State) (f : Frame) : (s.storeMessage f).fMask = s.fMask := rfl
@[simp] theorem storeMessage_fVal (s : State) (f : Frame) : (s.storeMessage f).fVal = s.fVal := rfl
@[simp] theorem storeMessage_tTimeout (s : State) (f : Frame) : (s.storeMessage f).tTimeout = s.tTimeout := rfl
@[simp] theorem storeMessage_tRemain (s : State) (f : Frame) : (s.storeMessage f).tRemain = s.tRemain := rfl
@[simp] theorem storeMessage_alive (s : State) (f : Frame) : (s.storeMessage f).alive = s.alive := rfl
@[simp] theorem storeMessage_ind (s : State) (f : Frame) : (s.storeMessage f).ind = s.ind := rfl
@[simp] theorem storeMessage_msgId (s : State) (f : Frame) : (s.storeMessage f).msgId = (decodeIdent f).1 := rfl
@[simp] theorem storeMessage_msgSrc (s : State) (f : Frame) : (s.storeMessage f).msgSrc = (decodeIdent f).2 := rfl
@[simp] theorem storeMessage_msgLen (s : State) (f : Frame) : (s.storeMessage f).msgLen = BitVec.ofNat 4 (clipLen f.len.toNat) := rfl
@[simp] theorem storeMessage_msgData (s : State) (f : Frame) : (s.storeMessage f).msgData = copyLanes (clipLen f.len.toNat) f.data s.msgData := rfl
@[simp] theorem storeMessage_label (s : State) (f : Frame) : (s.storeMessage f).label = s.label := rfl
@[simp] theorem storeMessage_trace (s : State) (f : Frame) : (s.storeMessage f).trace = s.trace := rfl
@[simp] theorem storeMessage_repeats (s : State) (f : Frame) : (s.storeMessage f).repeats = s.repeats := rfl
@[simp] theorem storeMessage_draws (s : State) (f : Frame) : (s.storeMessage f).draws = s.draws := rfl

/-! ### drawInd -/

@[simp] theorem drawInd_nodeUuid (s : State) : (s.drawInd).nodeUuid = s.nodeUuid := rfl
@[simp] theorem drawInd_phase (s : State) : (s.drawInd).phase = s.phase := rfl
@[simp] theorem drawInd_bSpeed (s : State) : (s.drawInd).bSpeed = s.bSpeed := rfl
@[simp] theorem drawInd_fCount (s : State) : (s.drawInd).fCount = s.fCount := rfl
@[simp] theorem drawInd_fMask (s : State) : (s.drawInd).fMask = s.fMask := rfl
@[simp] theorem drawInd_fVal (s : State) : (s.drawInd).fVal = s.fVal := rfl
@[simp] theorem drawInd_tTimeout (s : State) : (s.drawInd).tTimeout = s.tTimeout := rfl
@[simp] theorem drawInd_tRemain (s : State) : (s.drawInd).tRemain = s.tRemain := rfl
@[simp] theorem drawInd_alive (s : State) : (s.drawInd).alive = s.alive := rfl
@[simp] theorem drawInd_ind (s : State) : (s.drawInd).ind = (s.draw 1 0 == 1#1) := rfl
@[simp] theorem drawInd_msgId (s : State) : (s.drawInd).msgId = s.msgId := rfl
@[simp] theorem drawInd_msgSrc (s : State) : (s.drawInd).msgSrc = s.msgSrc := rfl
@[simp] theorem drawInd_msgLen (s : State) : (s.drawInd).msgLen = s.msgLen := rfl
@[simp] theorem drawInd_msgData (s : State) : (s.drawInd).msgData = s.msgData := rfl
@[simp] theorem drawInd_label (s : State) : (s.drawInd).label = s.label := rfl
@[simp] theorem drawInd_trace (s : State) : (s.drawInd).trace = s.trace := rfl
@[simp] theorem drawInd_repeats (s : State) : (s.drawInd).repeats = s.repeats := rfl
@[simp] theorem drawInd_draws (s : State) : (s.drawInd).draws = s.draws + 1 := rfl

/-! ### drawUnspecified -/

@[simp] theorem drawUnspecified_nodeUuid (s : State) : (s.drawUnspecified).nodeUuid = s.nodeUuid := rfl
@[simp] theorem drawUnspecified_phase (s : State) : (s.drawUnspecified).phase = s.phase := rfl
@[simp] theorem drawUnspecified_bSpeed (s : State) : (s.drawUnspecified).bSpeed = s.draw 32 0 := rfl
@[simp] theorem drawUnspecified_fCount (s : State) : (s.drawUnspecified).fCount = s.fCount := rfl
@[simp] theorem drawUnspecified_fMask (s : State) : (s.drawUnspecified).fMask = s.drawEight 16 16 := rfl
@[simp] theorem drawUnspecified_fVal (s : State) : (s.drawUnspecified).fVal = s.drawEight 16 24 := rfl
@[simp] theorem drawUnspecified_tTimeout (s : State) : (s.drawUnspecified).tTimeout = s.draw 32 1 := rfl
@[simp] theorem drawUnspecified_tRemain (s : State) : (s.drawUnspecified).tRemain = s.draw 32 2 := rfl
@[simp] theorem drawUnspecified_alive (s : State) : (s.drawUnspecified).alive = (s.draw 1 3 == 1#1) := rfl
@[simp] theorem drawUnspecified_ind (s : State) : (s.drawUnspecified).ind = (s.draw 1 4 == 1#1) := rfl
@[simp] theorem drawUnspecified_msgId (s : State) : (s.drawUnspecified).msgId = s.draw 11 5 := rfl
@[simp] theorem drawUnspecified_msgSrc (s : State) : (s.drawUnspecified).msgSrc = s.draw 18 6 := rfl
@[simp] theorem drawUnspecified_msgLen (s : State) : (s.drawUnspecified).msgLen = BitVec.ofNat 4 (clipLen (s.draw 4 7).toNat) := rfl
@[simp] theorem drawUnspecified_msgData (s : State) : (s.drawUnspecified).msgData = s.drawEight 8 8 := rfl
@[simp] theorem drawUnspecified_label (s : State) : (s.drawUnspecified).label = s.label := rfl
@[simp] theorem drawUnspecified_trace (s : State) : (s.drawUnspecified).trace = s.trace := rfl
@[simp] theorem drawUnspecified_repeats (s : State) : (s.drawUnspecified).repeats = s.repeats := rfl
@[simp] theorem drawUnspecified_draws (s : State) : (s.drawUnspecified).draws = s.draws + 32 := rfl

/-! ### updateAlive -/

@[simp] theorem updateAlive_nodeUuid (s : State) : (s.updateAlive).nodeUuid = s.nodeUuid := rfl
@[simp] theorem updateAlive_phase (s : State) : (s.updateAlive).phase = s.phase := rfl
@[simp] theorem updateAlive_bSpeed (s : State) : (s.updateAlive).bSpeed = s.bSpeed := rfl
@[simp] theorem updateAlive_fCount (s : State) : (s.updateAlive).fCount = s.fCount := rfl
@[simp] theorem updateAlive_fMask (s : State) : (s.updateAlive).fMask = s.fMask := rfl
@[simp] theorem updateAlive_fVal (s : State) : (s.updateAlive).fVal = s.fVal := rfl
@[simp] theorem updateAlive_tTimeout (s : State) : (s.updateAlive).tTimeout = s.tTimeout := rfl
@[simp] theorem updateAlive_tRemain (s : State) : (s.updateAlive).tRemain = s.tRemain := rfl
@[simp] theorem updateAlive_alive (s : State) : (s.updateAlive).alive = aliveFlag s.tRemain := rfl
@[simp] theorem updateAlive_ind (s : State) : (s.updateAlive).ind = s.ind := rfl
@[simp] theorem updateAlive_msgId (s : State) : (s.updateAlive).msgId = s.msgId := rfl
@[simp] theorem updateAlive_msgSrc (s : State) : (s.updateAlive).msgSrc = s.msgSrc := rfl
@[simp] theorem updateAlive_msgLen (s : State) : (s.updateAlive).msgLen = s.msgLen := rfl
@[simp] theorem updateAlive_msgData (s : State) : (s.updateAlive).msgData = s.msgData := rfl
@[simp] theorem updateAlive_label (s : State) : (s.updateAlive).label = s.label := rfl
@[simp] theorem updateAlive_trace (s : State) : (s.updateAlive).trace = s.trace := rfl
@[simp] theorem updateAlive_repeats (s : State) : (s.updateAlive).repeats = s.repeats := rfl
@[simp] theorem updateAlive_draws (s : State) : (s.updateAlive).draws = s.draws := rfl

/-! ### presented -/

@[simp] theorem presented_nodeUuid (s : State) (ops : List Instr) : (s.presented ops).nodeUuid = s.nodeUuid := rfl
@[simp] theorem presented_phase (s : State) (ops : List Instr) : (s.presented ops).phase = s.phase := rfl
@[simp] theorem presented_bSpeed (s : State) (ops : List Instr) : (s.presented ops).bSpeed = s.bSpeed := rfl
@[simp] theorem presented_fCount (s : State) (ops : List Instr) : (s.presented ops).fCount = s.fCount := rfl
@[simp] theorem presented_fMask (s : State) (ops : List Instr) : (s.presented ops).fMask = s.fMask := rfl
@[simp] theorem presented_fVal (s : State) (ops : List Instr) : (s.presented ops).fVal = s.fVal := rfl
@[simp] theorem presented_tTimeout (s : State) (ops : List Instr) : (s.presented ops).tTimeout = s.tTimeout := rfl
@[simp] theorem presented_tRemain (s : State) (ops : List Instr) : (s.presented ops).tRemain = s.tRemain := rfl
@[simp] theorem presented_alive (s : State) (ops : List Instr) : (s.presented ops).alive = s.alive := rfl
@[simp] theorem presented_ind (s : State) (ops : List Instr) : (s.presented ops).ind = s.ind := rfl
@[simp] theorem presented_msgId (s : State) (ops : List Instr) : (s.presented ops).msgId = s.msgId := rfl
@[simp] theorem presented_msgSrc (s : State) (ops : List Instr) : (s.presented ops).msgSrc = s.msgSrc := rfl
@[simp] theorem presented_msgLen (s : State) (ops : List Instr) : (s.presented ops).msgLen = s.msgLen := rfl
@[simp] theorem presented_msgData (s : State) (ops : List Instr) : (s.presented ops).msgData = s.msgData := rfl
@[simp] theorem presented_label (s : State) (ops : List Instr) : (s.presented ops).label = s.label := rfl
@[simp] theorem presented_trace (s : State) (ops : List Instr) : (s.presented ops).trace = ops.map encode := rfl
@[simp] theorem presented_repeats (s : State) (ops : List Instr) : (s.presented ops).repeats = s.repeats := rfl
@[simp] theorem presented_draws (s : State) (ops : List Instr) : (s.presented ops).draws = s.draws := rfl

/-! ### appendFilter, which writes F_MASK, F_VAL and F_COUNT alone -/

@[simp] theorem appendFilter_nodeUuid (s : State) (m v : FilterWord) : (s.appendFilter m v).nodeUuid = s.nodeUuid := by
  unfold State.appendFilter; split <;> rfl
@[simp] theorem appendFilter_phase (s : State) (m v : FilterWord) : (s.appendFilter m v).phase = s.phase := by
  unfold State.appendFilter; split <;> rfl
@[simp] theorem appendFilter_bSpeed (s : State) (m v : FilterWord) : (s.appendFilter m v).bSpeed = s.bSpeed := by
  unfold State.appendFilter; split <;> rfl
@[simp] theorem appendFilter_tTimeout (s : State) (m v : FilterWord) : (s.appendFilter m v).tTimeout = s.tTimeout := by
  unfold State.appendFilter; split <;> rfl
@[simp] theorem appendFilter_tRemain (s : State) (m v : FilterWord) : (s.appendFilter m v).tRemain = s.tRemain := by
  unfold State.appendFilter; split <;> rfl
@[simp] theorem appendFilter_alive (s : State) (m v : FilterWord) : (s.appendFilter m v).alive = s.alive := by
  unfold State.appendFilter; split <;> rfl
@[simp] theorem appendFilter_ind (s : State) (m v : FilterWord) : (s.appendFilter m v).ind = s.ind := by
  unfold State.appendFilter; split <;> rfl
@[simp] theorem appendFilter_msgId (s : State) (m v : FilterWord) : (s.appendFilter m v).msgId = s.msgId := by
  unfold State.appendFilter; split <;> rfl
@[simp] theorem appendFilter_msgSrc (s : State) (m v : FilterWord) : (s.appendFilter m v).msgSrc = s.msgSrc := by
  unfold State.appendFilter; split <;> rfl
@[simp] theorem appendFilter_msgLen (s : State) (m v : FilterWord) : (s.appendFilter m v).msgLen = s.msgLen := by
  unfold State.appendFilter; split <;> rfl
@[simp] theorem appendFilter_msgData (s : State) (m v : FilterWord) : (s.appendFilter m v).msgData = s.msgData := by
  unfold State.appendFilter; split <;> rfl
@[simp] theorem appendFilter_label (s : State) (m v : FilterWord) : (s.appendFilter m v).label = s.label := by
  unfold State.appendFilter; split <;> rfl
@[simp] theorem appendFilter_trace (s : State) (m v : FilterWord) : (s.appendFilter m v).trace = s.trace := by
  unfold State.appendFilter; split <;> rfl
@[simp] theorem appendFilter_repeats (s : State) (m v : FilterWord) : (s.appendFilter m v).repeats = s.repeats := by
  unfold State.appendFilter; split <;> rfl
@[simp] theorem appendFilter_draws (s : State) (m v : FilterWord) : (s.appendFilter m v).draws = s.draws := by
  unfold State.appendFilter; split <;> rfl

end Sys2Proof.Machine
end

