-- ==== Sys2Proof/Laws/Ops.lean ====
section
/-! SUPPORT. What each shared operation over the state can do, said once. -/

namespace Sys2Proof.Machine

/-! ## Acceptance by phase -/

theorem whenIdle_next {s t : State} {r : Result} (h : whenIdle s r = .next t) : s.phase = .idle ∧ r = .next t := by
  unfold whenIdle at h
  split at h
  · exact ⟨‹_›, h⟩
  · cases h
  · cases h

theorem whenRunning_next {s t : State} {r : Result} (h : whenRunning s r = .next t) :
    s.phase = .running ∧ r = .next t := by
  unfold whenRunning at h
  split at h
  · cases h
  · cases h
  · exact ⟨‹_›, h⟩

theorem whenHostFree_next {s t : State} {r : Result} (h : whenHostFree s r = .next t) :
    s.phase ≠ .starting ∧ r = .next t := by
  unfold whenHostFree at h
  split at h
  · exact ⟨by simp [*], h⟩
  · cases h
  · exact ⟨by simp [*], h⟩

theorem whenStarting_next {s t : State} {r : Result} (h : whenStarting s r = .next t) :
    s.phase = .starting ∧ r = .next t := by
  unfold whenStarting at h
  split at h
  · cases h
  · exact ⟨‹_›, h⟩
  · cases h

theorem whenIdle_of_idle {s : State} (h : s.phase = .idle) (r : Result) : whenIdle s r = r := by
  simp [whenIdle, h]

theorem whenRunning_of_running {s : State} (h : s.phase = .running) (r : Result) : whenRunning s r = r := by
  simp [whenRunning, h]

theorem whenHostFree_of_free {s : State} (h : s.phase ≠ .starting) (r : Result) : whenHostFree s r = r := by
  unfold whenHostFree
  split
  · rfl
  · contradiction
  · rfl

theorem whenStarting_of_starting {s : State} (h : s.phase = .starting) (r : Result) : whenStarting s r = r := by
  simp [whenStarting, h]

theorem whenStarting_of_not {s : State} (h : s.phase ≠ .starting) (r : Result) :
    whenStarting s r = .refused .noAttemptOutstanding := by
  unfold whenStarting
  split
  · rfl
  · contradiction
  · rfl

/-! ## The countdown -/

theorem countDown_tRemain_toNat (s : State) : s.countDown.tRemain.toNat = s.tRemain.toNat - 1 := by
  have hb := s.tRemain.isLt
  rw [countDown_tRemain]
  split
  · simp [*]
  · have h0 : s.tRemain.toNat ≠ 0 := fun h => ‹¬ _› (BitVec.eq_of_toNat_eq (by simpa using h))
    rw [BitVec.toNat_sub]
    simp
    omega

theorem expired_iff (v : Millis) : expired v = true ↔ v.toNat = 0 := by
  unfold expired
  rw [beq_iff_eq, ← BitVec.toNat_inj]
  rfl

theorem aliveFlag_iff (v : Millis) : aliveFlag v = true ↔ v.toNat ≠ 0 := by
  unfold aliveFlag
  rw [Bool.not_eq_true', ← Bool.not_eq_true, expired_iff]

theorem aliveFlag_eq_decide (v : Millis) : aliveFlag v = decide (v ≠ 0#32) := by
  rw [Bool.eq_iff_iff, aliveFlag_iff, decide_eq_true_iff]
  simp [← BitVec.toNat_inj]

/-! ## The filter table -/

theorem fCount_succ_toNat {c : BitVec 4} (h : c.toNat < 8) : (c + 1#4).toNat = c.toNat + 1 := by
  rw [BitVec.toNat_add]
  simp
  omega

/-- With room, the pair is stored at slot F_COUNT and the count goes up by one (43_filter.md R133). -/
theorem appendFilter_of_room {s : State} (h : s.fCount.toNat < 8) (m v : FilterWord) :
    (s.appendFilter m v).fCount.toNat = s.fCount.toNat + 1 ∧
      ∀ k : Fin 8,
        ((s.appendFilter m v).fMask[k] = if k.val = s.fCount.toNat then m else s.fMask[k]) ∧
        ((s.appendFilter m v).fVal[k] = if k.val = s.fCount.toNat then v else s.fVal[k]) := by
  simp only [State.appendFilter, h, dif_pos]
  refine ⟨fCount_succ_toNat h, fun k => ⟨?_, ?_⟩⟩
  · simp only [Fin.getElem_fin, Vector.getElem_set, eq_comm]
  · simp only [Fin.getElem_fin, Vector.getElem_set, eq_comm]

/-- A full table is left as it is (43_filter.md R133). -/
theorem appendFilter_of_full {s : State} (h : 8 ≤ s.fCount.toNat) (m v : FilterWord) : s.appendFilter m v = s := by
  simp only [State.appendFilter]
  rw [dif_neg (by omega)]

/-- An append changes the table alone. -/
theorem appendFilter_frame (s : State) (m v : FilterWord) :
    s.appendFilter m v = { s with
      fCount := (s.appendFilter m v).fCount, fMask := (s.appendFilter m v).fMask, fVal := (s.appendFilter m v).fVal } := by
  unfold State.appendFilter
  split <;> rfl

theorem hasRoom_iff (s : State) : s.hasRoom = true ↔ s.fCount.toNat < 8 :=
  decide_eq_true_iff

theorem holdsEntry_append (s : State) (m v : FilterWord) : holdsEntry (s.appendFilter m v).fCount = true := by
  unfold holdsEntry
  rw [decide_eq_true_iff]
  by_cases h : s.fCount.toNat < 8
  · rw [(appendFilter_of_room h m v).1]; omega
  · rw [appendFilter_of_full (by omega)]; omega

theorem entries_length (s : State) : s.entries.length = min s.fCount.toNat 8 := by
  simp [State.entries]

theorem entries_getElem? (s : State) (k : Fin 8) (h : k.val < s.fCount.toNat) :
    s.entries[k.val]? = some (s.fMask[k], s.fVal[k]) := by
  simp [State.entries, h]

/-- A scan that matches reports the value of the first entry whose comparison holds (43_filter.md R130). -/
theorem scanEntries_first (id : GroupId) (es : List (FilterWord × FilterWord)) (k : Nat) (e : FilterWord × FilterWord)
    (he : es[k]? = some e) (hit : zextFilter id &&& e.1 = e.2)
    (first : ∀ j, j < k → ∀ d, es[j]? = some d → zextFilter id &&& d.1 ≠ d.2) : scanEntries id es = .matched e.2 := by
  induction es generalizing k with
  | nil => simp at he
  | cons d es ih =>
    cases k with
    | zero =>
      obtain rfl : d = e := by simpa using he
      simp [scanEntries, hit]
    | succ k =>
      have hd := first 0 (by omega) d rfl
      simp only [scanEntries, hd, if_false]
      exact ih k (by simpa using he) fun j hj d' hd' => first (j + 1) (by omega) d' (by simpa using hd')

/-- A scan in which no comparison holds reports nothing (43_filter.md R130). -/
theorem scanEntries_none (id : GroupId) (es : List (FilterWord × FilterWord))
    (h : ∀ e ∈ es, zextFilter id &&& e.1 ≠ e.2) : scanEntries id es = .unmatched := by
  induction es with
  | nil => rfl
  | cons d es ih =>
    simp only [scanEntries, h d (List.mem_cons_self ..), if_false]
    exact ih fun e he => h e (List.mem_cons_of_mem _ he)

/-- MATCH reads F_COUNT and the registered entries, and nothing else of the state (43_filter.md R130). -/
theorem matchId_congr {s t : State} (id : GroupId) (hc : t.fCount = s.fCount) (he : t.entries = s.entries) :
    t.matchId id = s.matchId id := by
  simp only [State.matchId, hc, he]

/-- MATCH sees the same table through any update that leaves the table alone. -/
theorem matchId_of_table {s t : State} (id : GroupId) (hc : t.fCount = s.fCount) (hm : t.fMask = s.fMask)
    (hv : t.fVal = s.fVal) : t.matchId id = s.matchId id := by
  simp only [State.matchId, State.entries, hc, hm, hv]

/-! ## The next sample -/

theorem takeSample_silent {s : State} (h : s.trace = []) (hr : s.repeats = []) : s.takeSample = none := by
  simp only [State.takeSample, h, hr]

theorem takeSample_cons {s : State} {w : Sample} {rest : List Sample} (h : s.trace = w :: rest) :
    s.takeSample = some (w, { s with trace := rest }) := by
  simp only [State.takeSample, h]

theorem takeSample_repeats {s : State} {w : Sample} {rest : List Sample} (h : s.trace = []) (hr : s.repeats = w :: rest) :
    s.takeSample = some (w, { s with trace := rest }) := by
  simp only [State.takeSample, h, hr]

/-- What taking a sample can do: the sample is the first of the trace, or of the repeated samples when the trace is used up,
and the trace alone changes. -/
theorem takeSample_some {s t : State} {w : Sample} (h : s.takeSample = some (w, t)) :
    (s.trace = w :: t.trace ∨ (s.trace = [] ∧ s.repeats = w :: t.trace)) ∧ t = { s with trace := t.trace } := by
  unfold State.takeSample at h
  split at h
  · cases h
    exact ⟨.inl ‹_›, rfl⟩
  · cases h
    exact ⟨.inr ⟨‹_›, ‹_›⟩, rfl⟩
  · cases h

end Sys2Proof.Machine
end

