-- ==== Sys2Proof/Laws/Exec.lean ====
section
/-! SUPPORT. What each operation can do, said once: if it answers a next state, then its phase admitted it and the next
state is this one. -/

namespace Sys2Proof.Machine

theorem next_inj {s t : State} (h : (Host.Outcome.next s : Result) = .next t) : t = s := by
  cases h
  rfl

theorem execBegin_next {speed : Speed} {pin : Pin} {s t : State} (h : exec (.cmdBegin speed pin) s = .next t) :
    s.phase = .idle ∧
      t = { s with
        ind := s.draw 1 0 == 1#1, draws := s.draws + 1, bSpeed := speed, phase := .starting
        label := { events := [.indicatorBegin pin, .startReq speed] } } :=
  ⟨(whenIdle_next h).1, next_inj (whenIdle_next h).2⟩

theorem execSend_next {data : Lanes} {len : LenOperand} {id : IdOperand} {s t : State}
    (h : exec (.cmdSend data len id) s = .next t) :
    s.phase = .running ∧
      t = { s with label :=
        { ret := some true, events := [.tx (txRecord (enc (groupOf id) s.nodeUuid) len data)] } } :=
  ⟨(whenRunning_next h).1, next_inj (whenRunning_next h).2⟩

theorem execRead_none_next {s t : State} (h : exec (.cmdRead none) s = .next t) :
    s.phase = .running ∧
      t = { s with alive := aliveFlag s.tRemain, label := { rdValue := some 0#16, rdKind := some .noFrame } } :=
  ⟨(whenRunning_next h).1, next_inj (whenRunning_next h).2⟩

/-- The frame is received before it is filtered, but the table MATCH reads is the one before the READ. -/
theorem receive_matchId (s : State) (f : Frame) (id : GroupId) :
    (s.updateAlive.receive f).matchId id = s.matchId id :=
  matchId_of_table id rfl rfl rfl

theorem receive_msgId (s : State) (f : Frame) : (s.updateAlive.receive f).msgId = (decodeIdent f).1 := rfl

/-- The state a READ that found a frame leaves, for the result MATCH gave. -/
theorem execRead_some_next {f : Frame} {s t : State} (h : exec (.cmdRead (some f)) s = .next t) :
    s.phase = .running ∧ rxLegal f = true ∧
      t = { s with
        alive := aliveFlag s.tRemain, tRemain := s.tTimeout, ind := indAfter (s.matchId (decodeIdent f).1)
        msgData := copyLanes (clipLen f.len.toNat) f.data s.msgData
        msgLen := BitVec.ofNat 4 (clipLen f.len.toNat), msgId := (decodeIdent f).1, msgSrc := (decodeIdent f).2
        label :=
          { rdValue := some (valueOf (s.matchId (decodeIdent f).1))
            rdKind := some (kindOf (s.matchId (decodeIdent f).1))
            events := indDrives (s.matchId (decodeIdent f).1) } } := by
  obtain ⟨hp, hr⟩ := whenRunning_next h
  by_cases hl : rxLegal f = true
  · simp only [hl, if_true, receive_matchId, receive_msgId] at hr
    refine ⟨hp, hl, (next_inj hr).trans ?_⟩
    simp only [State.report, State.receive, State.updateAlive, State.answer, State.driveInd, State.retrigger,
      State.storeMessage, State.flagAlive]
  · simp only [hl] at hr
    cases hr

theorem execRegFilter_next {m v : FilterWord} {s t : State} (h : exec (.cmdRegFilter m v) s = .next t) :
    s.phase ≠ .starting ∧
      t = { s.appendFilter m v with label :=
        { ret := some (holdsEntry (s.appendFilter m v).fCount), rfStored := some s.hasRoom } } :=
  ⟨(whenHostFree_next h).1, next_inj (whenHostFree_next h).2⟩

theorem execClearFilter_next {s t : State} (h : exec .cmdClearFilter s = .next t) :
    s.phase ≠ .starting ∧ t = { s with fCount := 0#4, label := {} } :=
  ⟨(whenHostFree_next h).1, next_inj (whenHostFree_next h).2⟩

theorem execAlive_next {s t : State} (h : exec .cmdAlive s = .next t) :
    s.phase ≠ .starting ∧ t = { s with label := { ret := some s.alive } } :=
  ⟨(whenHostFree_next h).1, next_inj (whenHostFree_next h).2⟩

theorem execSetAlive_next {v : Millis} {s t : State} (h : exec (.cmdSetAlive v) s = .next t) :
    s.phase ≠ .starting ∧ t = { s with tTimeout := v, tRemain := v, label := {} } :=
  ⟨(whenHostFree_next h).1, next_inj (whenHostFree_next h).2⟩

theorem execUuid_next {s t : State} (h : exec .cmdUuid s = .next t) :
    s.phase ≠ .starting ∧ t = { s with label := { uuidOut := some s.nodeUuid } } :=
  ⟨(whenHostFree_next h).1, next_inj (whenHostFree_next h).2⟩

theorem execReset_next {uidHash : UidHash} {s t : State} (h : exec (.evtReset uidHash) s = .next t) :
    t = { s.drawUnspecified with
      nodeUuid := localAddr uidHash, phase := .idle, fCount := 0#4, label := {} } :=
  next_inj h

theorem execTick_next {s t : State} (h : exec .evtTick s = .next t) :
    t = { s with tRemain := s.countDown.tRemain, label := {} } :=
  next_inj h

theorem execStartOk_next {s t : State} (h : exec .evtStartOk s = .next t) :
    s.phase = .starting ∧
      t = { s with
        fCount := 0#4, tTimeout := Config.aliveDefaultMs, tRemain := Config.aliveDefaultMs, alive := true
        ind := false, phase := .running, label := { ret := some true, events := [.indicator false] } } :=
  ⟨(whenStarting_next h).1, next_inj (whenStarting_next h).2⟩

theorem execStartFail_next {s t : State} (h : exec .evtStartFail s = .next t) :
    s.phase = .starting ∧
      t = { s with
        ind := false, label := { events := [.indicator true, .indicator false, .startReq s.bSpeed] } } :=
  ⟨(whenStarting_next h).1, next_inj (whenStarting_next h).2⟩

/-- A READ of a legal record in RUNNING answers. -/
theorem execRead_some_of_running {f : Frame} {s : State} (hp : s.phase = .running) (hl : rxLegal f = true) :
    exec (.cmdRead (some f)) s =
      .next ((s.updateAlive.receive f).report ((s.updateAlive.receive f).matchId (s.updateAlive.receive f).msgId)) := by
  show whenRunning s _ = _
  rw [whenRunning_of_running hp]
  simp [hl]

end Sys2Proof.Machine
end

