-- ==== Sys2Proof/Laws/PerInstr.lean ====
section
/-! SUPPORT. A law about the encoding of every operation, one lemma a constructor. -/

/-- The sample an operation is encoded as has a code the operation map admits on its port (30_encoding.md R70, R72). -/
def Sys2Proof.Laws.EncodesLegalCode.Statement (i : Sys2Proof.Instr) : Prop :=
  match Sys2Proof.encode i with
  | .cmd op _ _ => 1 ≤ op.toNat ∧ op.toNat ≤ 8
  | .evt pins _ => pins = 8#4 ∨ pins = 4#4 ∨ pins = 2#4 ∨ pins = 1#4

namespace Sys2Proof.Laws.EncodesLegalCode

theorem cmdBegin (speed : Speed) (pin : Pin) : Statement (.cmdBegin speed pin) := ⟨by decide, by decide⟩
theorem cmdSend (data : Lanes) (len : LenOperand) (id : IdOperand) : Statement (.cmdSend data len id) :=
  ⟨by decide, by decide⟩
theorem cmdRead (rx : Option Frame) : Statement (.cmdRead rx) := ⟨by decide, by decide⟩
theorem cmdRegFilter (mask filt : FilterWord) : Statement (.cmdRegFilter mask filt) := ⟨by decide, by decide⟩
theorem cmdClearFilter : Statement .cmdClearFilter := ⟨by decide, by decide⟩
theorem cmdAlive : Statement .cmdAlive := ⟨by decide, by decide⟩
theorem cmdSetAlive (timeout : Millis) : Statement (.cmdSetAlive timeout) := ⟨by decide, by decide⟩
theorem cmdUuid : Statement .cmdUuid := ⟨by decide, by decide⟩
theorem evtReset (uidHash : UidHash) : Statement (.evtReset uidHash) := .inl rfl
theorem evtTick : Statement .evtTick := .inr (.inl rfl)
theorem evtStartOk : Statement .evtStartOk := .inr (.inr (.inl rfl))
theorem evtStartFail : Statement .evtStartFail := .inr (.inr (.inr rfl))

end Sys2Proof.Laws.EncodesLegalCode
end

