-- ==== Sys2Proof/Laws/Run.lean ====
section
/-! SUPPORT. Steps and runs over a presented list of operations. -/

namespace Sys2Proof.Machine

/-- With no sample to take, nothing happens (assumption log 13). -/
theorem step_none {s : State} (h : s.takeSample = none) : step s = .next s := by
  simp only [step, h]

/-- What a step does with the sample it takes (20_memory.md R46, R48). -/
theorem step_take {s t : State} {w : Sample} (h : s.takeSample = some (w, t)) :
    step s =
      match decode w with
      | .step i => exec i t
      | .idle => .next t
      | .reject why => .refused (.undecoded why) := by
  cases hd : decode w <;> simp only [step, h, hd]

/-- A step that answers either had no sample, or an idle one, or performed the operation it decoded. -/
theorem step_next {s t : State} (h : step s = .next t) :
    (s.takeSample = none ∧ t = s) ∨
      (∃ w, s.takeSample = some (w, t) ∧ decode w = .idle) ∨
      ∃ w u i, s.takeSample = some (w, u) ∧ decode w = .step i ∧ exec i u = .next t := by
  rcases hw : s.takeSample with _ | ⟨w, u⟩
  · rw [step_none hw] at h
    exact .inl ⟨rfl, next_inj h⟩
  · rw [step_take hw] at h
    split at h
    · exact .inr (.inr ⟨w, u, _, rfl, ‹_›, h⟩)
    · exact .inr (.inl ⟨w, by rw [next_inj h], ‹_›⟩)
    · cases h

/-- An operation never reads or writes the samples still to come, so it answers the same whatever follows. -/
theorem exec_inputs {i : Instr} {s t : State} (h : exec i s = .next t) : t.trace = s.trace ∧ t.repeats = s.repeats := by
  cases i with
  | cmdBegin => rw [(execBegin_next h).2]; exact ⟨rfl, rfl⟩
  | cmdSend => rw [(execSend_next h).2]; exact ⟨rfl, rfl⟩
  | cmdRead rx =>
    cases rx with
    | none => rw [(execRead_none_next h).2]; exact ⟨rfl, rfl⟩
    | some f => rw [(execRead_some_next h).2.2]; exact ⟨rfl, rfl⟩
  | cmdRegFilter => rw [(execRegFilter_next h).2]; exact ⟨appendFilter_trace .., appendFilter_repeats ..⟩
  | cmdClearFilter => rw [(execClearFilter_next h).2]; exact ⟨rfl, rfl⟩
  | cmdAlive => rw [(execAlive_next h).2]; exact ⟨rfl, rfl⟩
  | cmdSetAlive => rw [(execSetAlive_next h).2]; exact ⟨rfl, rfl⟩
  | cmdUuid => rw [(execUuid_next h).2]; exact ⟨rfl, rfl⟩
  | evtReset => rw [execReset_next h]; exact ⟨drawUnspecified_trace s, drawUnspecified_repeats s⟩
  | evtTick => rw [execTick_next h]; exact ⟨rfl, rfl⟩
  | evtStartOk => rw [(execStartOk_next h).2]; exact ⟨rfl, rfl⟩
  | evtStartFail => rw [(execStartFail_next h).2]; exact ⟨rfl, rfl⟩

theorem exec_trace {i : Instr} {s t : State} (h : exec i s = .next t) : t.trace = s.trace := (exec_inputs h).1

theorem exec_repeats {i : Instr} {s t : State} (h : exec i s = .next t) : t.repeats = s.repeats := (exec_inputs h).2

/-- No step ever changes the samples that come over and over. -/
theorem step_repeats {s t : State} (h : step s = .next t) : t.repeats = s.repeats := by
  rcases step_next h with ⟨_, rfl⟩ | ⟨w, hw, _⟩ | ⟨w, u, i, hw, _, he⟩
  · rfl
  · rw [(takeSample_some hw).2]
  · rw [exec_repeats he, (takeSample_some hw).2]

theorem run_zero (s : State) : Sys2Proof.core.run 0 s = (.next s : Result) := rfl

theorem run_succ {k : Nat} {s t : State} (h : step s = .next t) :
    Sys2Proof.core.run (k + 1) s = (Sys2Proof.core.run k t : Result) := by
  have e : Sys2Proof.core.step s = (.next t : Result) := h
  simp only [Host.Core.run, e]

end Sys2Proof.Machine
end

