-- ==== Sys2Proof/Tests/Slice0.lean ====
section
/-! SUPPORT. Named tests. The expected results are those of spec/95_test_vectors.md (the vector is named at each test) or
of the encoding tables of 30_encoding.md; the witnesses show that the hypotheses of each obligation can be met. -/

namespace Sys2Proof.Tests

open Sys2Proof.Machine

/-- The next state of a result, if it is one. -/
def after : Result → Option State
  | .next s => some s
  | .fault _ => none
  | .refused _ => none

/-- What a next state shows of itself, if there is one. -/
def look {α : Type} (r : Result) (f : State → α) : Option α := (after r).map f

/-- How a result stops: 0 a next state, 1 the fault, 2 to 6 the refusals in their order. -/
def stop : Result → Nat
  | .next _ => 0
  | .fault .hostBlocked => 1
  | .refused (.undecoded _) => 2
  | .refused .notStarted => 3
  | .refused .alreadyStarted => 4
  | .refused .noAttemptOutstanding => 5
  | .refused .malformedRecord => 6
  | .refused (.notModelled _) => 7

def lanes (a b c : Byte) : Lanes := #v[a, b, c, 4, 5, 6, 7, 8]

def sIdle : State := { State.reset with nodeUuid := 0x0BEEF#18 }
def sStart : State := { sIdle with phase := .starting, bSpeed := 500000#32, fCount := 3#4 }
/-- STARTING, with START_FAIL over and over and nothing before it (R95). -/
def sForever : State := { sStart with repeats := [encode .evtStartFail] }
def sRun : State := { sIdle with phase := .running, tTimeout := 5#32, tRemain := 3#32 }
/-- RUNNING with the countdown expired and the flag stale. -/
def sSilent : State := { sRun with tRemain := 0#32, alive := true }
/-- RUNNING with the table of vectors FM1 to FM8. -/
def sTable : State :=
  { sRun with
    fCount := 4#4
    fMask := #v[0x0700, 0x07FF, 0x07FF, 0x0700, 0, 0, 0, 0]
    fVal := #v[0x0100, 0x0123, 0x0000, 0x07FF, 0, 0, 0, 0] }
def sFull : State := { sRun with fCount := 8#4 }
/-- RUNNING with one entry that matches no id (FM11). -/
def sDeaf : State := { sRun with fCount := 1#4, fVal := #v[1, 0, 0, 0, 0, 0, 0, 0] }

def fExt : Frame := { ext := true, ident := 0x048CBEEF#29, len := 2#4, data := lanes 0xAA 0xBB 0 }
def fStd : Frame := { ext := false, ident := 0x7FF#29, len := 0#4, data := lanes 1 2 3 }
def fBad : Frame := { ext := false, ident := 0x800#29, len := 0#4, data := lanes 1 2 3 }

/-! ## Decoding, one sample written out for each operation (30_encoding.md R66, R67, R70) -/

theorem test_decode_begin :
    decode (.cmd 0b0001#4 { idlePorts with speed := 500000, pin := 13 } none) = .step (.cmdBegin 500000 13) := by decide
theorem test_decode_send :
    decode (.cmd 0b0010#4 { idlePorts with data := lanes 1 2 3, len := 10, id := 0x923 } none)
      = .step (.cmdSend (lanes 1 2 3) 10 0x923) := by decide
theorem test_decode_read : decode (.cmd 0b0011#4 idlePorts (some fStd)) = .step (.cmdRead (some fStd)) := by decide
theorem test_decode_regfilter :
    decode (.cmd 0b0100#4 { idlePorts with mask := 0x7F0, filt := 0x120 } none) = .step (.cmdRegFilter 0x7F0 0x120) := by
  decide
theorem test_decode_clearfilter : decode (.cmd 0b0101#4 idlePorts none) = .step .cmdClearFilter := by decide
theorem test_decode_alive : decode (.cmd 0b0110#4 idlePorts none) = .step .cmdAlive := by decide
theorem test_decode_setalive :
    decode (.cmd 0b0111#4 { idlePorts with timeout := 1000 } none) = .step (.cmdSetAlive 1000) := by decide
theorem test_decode_uuid : decode (.cmd 0b1000#4 idlePorts none) = .step .cmdUuid := by decide
theorem test_decode_reset : decode (.evt 0b1000#4 0x1234BEEF#32) = .step (.evtReset 0x1234BEEF#32) := by decide
theorem test_decode_tick : decode (.evt 0b0100#4 0#32) = .step .evtTick := by decide
theorem test_decode_start_ok : decode (.evt 0b0010#4 0#32) = .step .evtStartOk := by decide
theorem test_decode_start_fail : decode (.evt 0b0001#4 0#32) = .step .evtStartFail := by decide
/-- IN13 and U12: the reserved codes, and two pins at once; the pins 0b0000 are no event (R67). -/
theorem test_decode_reserved :
    decode (.cmd 0b0000#4 idlePorts none) = .reject (.reservedOpcode 0) ∧
      decode (.cmd 0b1001#4 idlePorts none) = .reject (.reservedOpcode 9) ∧
      decode (.evt 0b0110#4 0#32) = .reject (.multipleEvents 6) ∧ decode (.evt 0b0000#4 0#32) = .idle := by decide
theorem test_table_word : decodeTableWord 8 8 = some .cmdUuid ∧ decodeTableWord 8 9 = none := by decide

/-! ## Well-formedness: the one check refuses its ill-formed term (RD8) -/

theorem test_wellFormed_refuses :
    Instr.wellFormed (.cmdRead (some fBad)) = false ∧ stop (exec (.cmdRead (some fBad)) sRun) = 6 := by decide

/-! ## The codec: CD4, CD9, CD13 -/

theorem test_enc : enc 0x7FF 0x3FFFF = 0x1FFFFFFF ∧ enc 0x555 0x2AAAA = 0x1556AAAA := by decide
theorem test_decExt : decExt 0x1555AAAA = (0x555, 0x1AAAA) := by decide

/-! ## MATCH: FM3, FM4, FM6, FM13 -/

theorem test_match_first : sTable.matchId 0x123 = .matched 0x100 ∧ sTable.matchId 0x000 = .matched 0 := by decide
theorem test_match_none :
    sTable.matchId 0x7FF = .unmatched ∧ scanEntries 0x123 [(0xFFFF, 0x8123)] = .unmatched := by decide

/-! ## One step of each operation -/

/-- S4 and S7: high id bits dropped, eight bytes of ten. -/
theorem test_send_truncates :
    look (exec (.cmdSend (lanes 1 2 3) 10 0x0923) sRun) (fun s => (s.label.ret, s.label.events)) =
      some (some true, [.tx { ext := true, ident := 0x048CBEEF, len := 8, data := [1, 2, 3, 4, 5, 6, 7, 8] }]) := by decide
/-- S9 and IN10. -/
theorem test_send_short :
    look (exec (.cmdSend (lanes 0xAA 0xBB 0) 1 0x0123) sRun) (fun s => s.label.events) =
      some [.tx { ext := true, ident := 0x048CBEEF, len := 1, data := [0xAA] }] ∧
    stop (exec (.cmdSend (lanes 1 2 3) 1 1) sIdle) = 3 := by decide
/-- RD2, with the old bytes of the buffer kept. -/
theorem test_read_pass :
    look (exec (.cmdRead (some fExt)) { sRun with msgData := Vector.replicate 8 0xEE })
      (fun s => ((s.msgId, s.msgSrc, s.msgLen), s.msgData, s.label.rdKind, s.label.rdValue)) =
    some ((0x123, 0x0BEEF, 2), #v[0xAA, 0xBB, 0xEE, 0xEE, 0xEE, 0xEE, 0xEE, 0xEE], some .pass, some 0x123) := by decide
/-- P2 step 7 and RD5: the rejected frame overwrites the buffer and restarts the countdown, and ALIVE is 0 after a silence. -/
theorem test_read_unmatched :
    look (exec (.cmdRead (some fStd)) { sTable with tRemain := 0 })
      (fun s => ((s.alive, s.tRemain, s.ind), (s.msgId, s.msgSrc), s.label.rdKind, s.label.rdValue)) =
    some ((false, 5, false), (0x7FF, 0), some .unmatched, some 0) := by decide
/-- RG2: slot 7, and RG3: the table is full. -/
theorem test_regfilter_last :
    look (exec (.cmdRegFilter 0xFFFF 0xFFFF) { sRun with fCount := 7 })
      (fun s => (s.fCount, s.fMask.toList.drop 6, s.label.ret, s.label.rfStored)) =
    some (8, [0, 0xFFFF], some true, some true) := by decide
theorem test_regfilter_full :
    look (exec (.cmdRegFilter 1 1) sFull) (fun s => (s.fCount, s.fMask.toList, s.label.ret, s.label.rfStored)) =
    some (8, [0, 0, 0, 0, 0, 0, 0, 0], some true, some false) := by decide
/-- RG4. -/
theorem test_clearfilter :
    look (exec .cmdClearFilter sTable) (fun s => (s.fCount, s.fMask, s.label)) = some (0, sTable.fMask, {}) := by decide
/-- LV5. -/
theorem test_alive_stale :
    look (exec .cmdAlive sSilent) (fun s => (s.label.ret, s.tRemain)) = some (some true, 0) := by decide
/-- LV7. -/
theorem test_setalive :
    look (exec (.cmdSetAlive 20) { sSilent with alive := false }) (fun s => (s.tTimeout, s.tRemain, s.alive)) =
    some (20, 20, false) := by decide
/-- LV4 and LV11. -/
theorem test_tick :
    look (exec .evtTick sSilent) (fun s => s.tRemain) = some 0 ∧
      look (exec .evtTick { sRun with tRemain := 0xFFFFFFFF }) (fun s => s.tRemain) = some 0xFFFFFFFE := by decide
/-- IN4. -/
theorem test_reset :
    look (exec (.evtReset 0xABCD8001) sTable) (fun s => (s.nodeUuid, s.phase, s.fCount)) = some (0x08001, .idle, 0) := by
  decide
/-- IN6. -/
theorem test_begin :
    look (exec (.cmdBegin 500000 13) sIdle) (fun s => (s.phase, s.bSpeed, s.label.ret, s.label.events)) =
    some (.starting, 500000, none, [.indicatorBegin 13, .startReq 500000]) := by decide
/-- IN9 and U16. -/
theorem test_begin_stops :
    stop (exec (.cmdBegin 1 1) sRun) = 4 ∧ stop (exec (.cmdBegin 1 1) sStart) = 1 := by decide
/-- IN7 and IN11. -/
theorem test_start_fail :
    look (exec .evtStartFail { sStart with ind := true }) (fun s => (s.ind, s.phase, s.label.events)) =
    some (false, .starting, [.indicator true, .indicator false, .startReq 500000]) ∧
    stop (exec .evtStartFail sRun) = 5 := by decide
/-- IN8. -/
theorem test_start_ok :
    look (exec .evtStartOk { sStart with ind := true })
      (fun s => (s.phase, s.fCount, s.alive, s.ind, s.label.ret)) = some (.running, 0, true, false, some true) := by decide
/-- IN5. -/
theorem test_uuid : look (exec .cmdUuid sIdle) (fun s => s.label.uuidOut) = some (some 0x0BEEF) := by decide
/-- The codes of PHASE (10_state.md R13) and `rd_kind` (42_read.md R116). -/
theorem test_codes :
    [Phase.idle, .starting, .running].map phaseCode = [0, 1, 2] ∧
      [RdKind.noFrame, .pass, .matched, .unmatched].map rdKindCode = [0, 1, 2, 3] := by decide

/-! ## Witnesses: the hypotheses of each obligation can be met, clause by clause -/

theorem witness_StepRunsDecodedOperation :
    decode (encode .evtTick) = .step .evtTick ∧
    State.trace { sRun with trace := [encode .evtTick] } = encode .evtTick :: [] ∧
    State.trace sForever = [] ∧ sForever.repeats = encode .evtStartFail :: [] ∧
      decode (encode .evtStartFail) = .step .evtStartFail := by
  decide
theorem witness_StepWithoutOperationIdles :
    (sRun.trace = [] ∧ sRun.repeats = []) ∧
      State.takeSample { sRun with trace := [.evt 0b0000#4 7#32] } = some (.evt 0b0000#4 7#32, sRun) := by decide
theorem witness_ReservedSamplesRefused :
    (State.takeSample { sRun with trace := [.cmd 0#4 idlePorts none] } = some (.cmd 0#4 idlePorts none, sRun) ∧
      (0#4 : Code).toNat = 0) ∧
    (State.takeSample { sRun with trace := [.cmd 9#4 idlePorts none] } = some (.cmd 9#4 idlePorts none, sRun) ∧
      9 ≤ (9#4 : Code).toNat) ∧
    (State.takeSample { sRun with trace := [.evt 3#4 0#32] } = some (.evt 3#4 0#32, sRun) ∧
      ∃ a b : Fin 4, a ≠ b ∧ (3#4 : Code).getLsbD a.val = true ∧ (3#4 : Code).getLsbD b.val = true) := by decide
theorem witness_DecodeEncodeAgree : decode (.cmd 8#4 idlePorts none) = .step .cmdUuid := by decide
theorem witness_SendEmitsRecord :
    sRun.phase = .running ∧ (7 : Fin 8).val < min (255#8 : LenOperand).toNat 8 ∧ sIdle.phase ≠ .running := by decide
theorem witness_SendTruncatesSilently :
    (0x0FFF#16 : IdOperand).toNat % 2048 = (0x07FF#16 : IdOperand).toNat % 2048 ∧
      min (8#8 : LenOperand).toNat 8 = min (255#8 : LenOperand).toNat 8 ∧
      ∀ k : Fin 8, k.val < min (8#8 : LenOperand).toNat 8 → (lanes 1 2 3)[k] = (lanes 1 2 3)[k] := by decide
theorem witness_SendDriverCallSequence : sRun.phase = .running ∧ (0 : Fin 8).val < min (1#8 : LenOperand).toNat 8 := by
  decide
/-- A READ in RUNNING of a frame of either format, at the largest non-extended identifier, with each result of MATCH; and
the phase that refuses. -/
theorem witness_ReadPollsAndFilters :
    (sRun.phase = .running ∧ sTable.phase = .running ∧ sDeaf.phase = .running) ∧
    (fExt.ext = true ∧ fStd.ext = false ∧ fStd.ident.toNat < 2048) ∧
    (sRun.matchId 0x123 = .pass 0x123 ∧ sTable.matchId 0x123 = .matched 0x100 ∧ sDeaf.matchId 0x123 = .unmatched) ∧
    sIdle.phase ≠ .running := by decide
theorem witness_ReadRefusesMalformedRecord :
    sRun.phase = .running ∧ fBad.ext = false ∧ 2048 ≤ fBad.ident.toNat := by decide
theorem witness_ReadIndicatorDrives :
    sDeaf.phase = .running ∧ (fStd.ext = true ∨ fStd.ident.toNat < 2048) ∧
    look (exec (.cmdRead (some fStd)) sDeaf) (fun s => s.label.rdKind) = some (some .unmatched) ∧
    look (exec (.cmdRead (some fStd)) sRun) (fun s => s.label.rdKind) = some (some .pass) := by decide
theorem witness_SilenceEndingFrameReadDead :
    sSilent.phase = .running ∧ (fExt.ext = true ∨ fExt.ident.toNat < 2048) ∧ sSilent.tRemain = 0#32 ∧
      4 < sSilent.tTimeout.toNat := by decide
/-- The pass clause; the first match at the last registered slot and in a full table at slot 7; no match. -/
theorem witness_MatchFirstRegistered :
    sRun.fCount = 0#4 ∧
    ((2 : Fin 8).val < sTable.fCount.toNat ∧ (0#11 : GroupId).setWidth 16 &&& sTable.fMask[2] = sTable.fVal[2] ∧
      ∀ j : Fin 8, j < 2 → (0#11 : GroupId).setWidth 16 &&& sTable.fMask[j] ≠ sTable.fVal[j]) ∧
    (sDeaf.fCount ≠ 0#4 ∧
      ∀ k : Fin 8, k.val < sDeaf.fCount.toNat → (5#11 : GroupId).setWidth 16 &&& sDeaf.fMask[k] ≠ sDeaf.fVal[k]) := by
  decide
theorem witness_MatchFirstRegistered_lastSlot :
    let s := { sRun with
      fCount := 8#4, fMask := Vector.replicate 8 0x7FF#16, fVal := #v[1, 2, 3, 4, 5, 6, 7, 8] }
    (7 : Fin 8).val < s.fCount.toNat ∧ (8#11 : GroupId).setWidth 16 &&& s.fMask[7] = s.fVal[7] ∧
      ∀ j : Fin 8, j < 7 → (8#11 : GroupId).setWidth 16 &&& s.fMask[j] ≠ s.fVal[j] := by decide
theorem witness_FilterEntryProperties :
    ((0x123#16 : FilterWord) &&& ~~~0x7FF#16 = 0#16) ∧ ((0x7FF#16 : FilterWord) &&& ~~~0x700#16 ≠ 0#16) ∧
    2048 ≤ (0x800#16 : FilterWord).toNat ∧ (1#16 : FilterWord) ≠ 0#16 ∧
    scanEntries 0x123 [(0x7F0#16, 0x120#16)] = .matched 0x120#16 := by decide
theorem witness_RegFilterAppends :
    (sIdle.phase ≠ .starting ∧ sIdle.fCount.toNat < 8) ∧
    (State.phase { sRun with fCount := 7#4 } ≠ .starting ∧ State.fCount { sRun with fCount := 7#4 } = 7#4) ∧
    (sFull.phase ≠ .starting ∧ 8 ≤ sFull.fCount.toNat) ∧ sStart.phase = .starting := by decide
theorem witness_ClearFilterEmptiesTable : sIdle.phase ≠ .starting ∧ sRun.phase ≠ .starting ∧ sStart.phase = .starting := by decide
theorem witness_SetAliveArms : sIdle.phase ≠ .starting ∧ sRun.phase ≠ .starting ∧ sStart.phase = .starting := by decide
theorem witness_AliveReturnsFlag : sIdle.phase ≠ .starting ∧ sRun.phase ≠ .starting ∧ sStart.phase = .starting := by decide
theorem witness_UuidReturnsAddress : sIdle.phase ≠ .starting ∧ sRun.phase ≠ .starting ∧ sStart.phase = .starting := by decide
theorem witness_UuidReturnsAddress_afterReset : ∃ t, exec (.evtReset 0x1234BEEF#32) sRun = .next t := ⟨_, rfl⟩
theorem witness_RegistrationStopsAtCapacity :
    sRun.phase ≠ .starting ∧ sRun.fCount = 0#4 ∧ List.replicate 9 (1#16, 1#16) ≠ [] ∧
    (List.replicate 9 (1#16, 1#16))[7]? = some (1#16, 1#16) ∧ (List.replicate 7 (1#16, 1#16))[7]? = none := by decide
/-- Operations that write each register the statements on writers speak of, and one that leaves a registered entry alone. -/
theorem witness_FilterTableWriters :
    look (exec (.cmdRegFilter 1 1) sIdle) (fun t => t.fCount != sIdle.fCount) = some true ∧
    look (exec .evtStartOk sStart) (fun t => t.fCount != sStart.fCount) = some true ∧
    look (exec .evtTick sTable) (fun t => t.fCount == sTable.fCount) = some true ∧
    (3 : Fin 8).val < sTable.fCount.toNat := by decide
theorem witness_TickOrderUnseenByOthers : ∃ u, exec .cmdClearFilter sTable = .next u := ⟨_, rfl⟩
theorem witness_CountdownExpiresAfterTimeout : sIdle.phase ≠ .starting := by decide
theorem witness_LivenessLawOverRuns :
    State.phase { sRun with tRemain := 5#32 } = .running ∧
    State.tRemain { sRun with tRemain := 5#32 } = State.tTimeout { sRun with tRemain := 5#32 } ∧
    (∀ i ∈ [Instr.evtTick, .cmdRead (some fStd), .evtTick, .cmdUuid], isPolling i = true) ∧
    isPolling (.cmdRead none) = true ∧ isPolling (.cmdRead (some fExt)) = true := by decide
theorem witness_BeginStartsAttempt : sIdle.phase = .idle ∧ sRun.phase ≠ .idle := by decide
theorem witness_StartFailBlinksAndRetries : sStart.phase = .starting ∧ sIdle.phase ≠ .starting ∧ sRun.phase ≠ .starting := by decide
theorem witness_StartOkCompletesBegin : sStart.phase = .starting ∧ sIdle.phase ≠ .starting ∧ sRun.phase ≠ .starting := by decide
theorem witness_BeginRetriesUntilStarted : sIdle.phase = .idle := by decide
/-- R95: after a START_FAIL the next one is there again, and so on. -/
theorem test_start_fail_again :
    look (step sForever) (fun t => (t.phase, t.trace, t.repeats, t.label.events)) =
      some (.starting, [], [encode .evtStartFail], [.indicator true, .indicator false, .startReq 500000]) := by decide
theorem witness_StartsForeverKept :
    sForever.StartsForever ∧ sForever.label.ret = none ∧ sForever.takeSample = some (encode .evtStartFail, sForever) :=
  ⟨⟨rfl, by decide, by decide⟩, rfl, rfl⟩
theorem witness_BeginMayNeverReturn : sIdle.phase = .idle ∧ (1 : Nat) ≠ 0 := by decide
theorem witness_UnansweredStartWaits :
    sStart.phase = .starting ∧ ∀ k : Nat, keepsWaiting (if k % 2 = 0 then encode .evtStartFail else encode .evtTick) = true :=
  ⟨rfl, fun k => by split <;> decide⟩
theorem witness_CountdownTracksTicks :
    sRun.tRemain.toNat = sRun.tTimeout.toNat - 2 ∧
      (∃ t, step { sRun with trace := [encode .evtTick] } = .next t) ∧
      ∀ w u h, State.takeSample { sRun with trace := [encode .evtTick] } = some (w, u) → decode w ≠ .step (.evtReset h) :=
  ⟨by decide, ⟨_, rfl⟩, fun w _ _ e hd => by
    have hw : some (encode .evtTick) = some w := congrArg (Option.map Prod.fst) e
    cases hw
    cases hd⟩
theorem witness_PhaseMovesOnlyAsSpecified :
    sStart.phase = .starting ∧
    look (step { sStart with trace := [encode .evtStartOk] }) (fun t => t.phase) = some .running ∧
    look (step { sStart with trace := [encode (.evtReset 1)] }) (fun t => t.phase) = some .idle := by decide
theorem witness_AcceptanceByPhase :
    Instr.wellFormed (.cmdRead (some fStd)) = true ∧ Instr.wellFormed (.cmdSend (lanes 1 2 3) 255 0xFFFF) = true ∧
    sIdle.phase = .idle ∧ sStart.phase = .starting ∧ sRun.phase = .running := by decide
theorem witness_IdentityAndSpeedWriters :
    look (exec (.evtReset 1) sRun) (fun t => t.nodeUuid != sRun.nodeUuid) = some true ∧
    look (exec (.cmdBegin 9 1) sIdle) (fun t => t.bSpeed != sIdle.bSpeed) = some true := by decide
theorem witness_LivenessRegisterWriters :
    look (exec (.cmdRead none) sSilent) (fun t => t.alive != sSilent.alive) = some true ∧
    look (exec (.cmdSetAlive 9) sRun) (fun t => t.tTimeout != sRun.tTimeout) = some true ∧
    look (exec .evtTick sRun) (fun t => t.tRemain != sRun.tRemain) = some true := by decide
theorem witness_OutputRegisterWriters :
    look (exec (.cmdRead (some fStd)) sRun) (fun t => (t.ind != sRun.ind, t.msgId != sRun.msgId)) = some (true, true) := by
  decide
theorem sRun_inv : sRun.Inv := ⟨by decide, by decide, by decide, by decide, fun _ h => nomatch h⟩
theorem witness_StepKeepsInvariant :
    State.Inv { sRun with trace := [encode .cmdUuid] } ∧
      ∃ t, step { sRun with trace := [encode .cmdUuid] } = .next t :=
  ⟨sRun_inv, _, rfl⟩
/-- Two states that differ in slot 1, above F_COUNT = 1. -/
theorem witness_UnreachableSlotsUnobservable :
    sDeaf.AgreeOnReachable { sDeaf with fVal := #v[1, 9, 0, 0, 0, 0, 0, 0] } ∧
      sDeaf ≠ { sDeaf with fVal := #v[1, 9, 0, 0, 0, 0, 0, 0] } :=
  ⟨⟨rfl, by decide⟩, fun h => absurd (congrArg State.fVal h) (by decide)⟩
theorem witness_SentFrameReadsBack :
    sRun.phase = .running ∧ sTable.phase = .running ∧
      Carries { ext := true, ident := enc 0x123 0x0BEEF, len := 2, data := lanes 1 2 3 }
        (txRecord (enc 0x123 0x0BEEF) 2 (lanes 1 2 9)) :=
  ⟨rfl, rfl, rfl, rfl, by decide, by decide⟩

end Sys2Proof.Tests
end

section
/-! PROOFS. Construction, start-up and identity: BEGIN and UUID (40_init_identity.md sections 2 and 3). -/

namespace Sys2Proof.Machine

/-! ## BEGIN -/

theorem decode_cmd_begin (p : CmdPorts) (rx : Option Frame) :
    decode (.cmd 1#4 p rx) = .step (.cmdBegin p.speed p.pin) := rfl

/-- BEGIN in IDLE completes; IND takes the next free value (40_init_identity.md R92). -/
theorem execBegin_of_idle {s : State} (h : s.phase = .idle) (speed : Speed) (pin : Pin) :
    exec (.cmdBegin speed pin) s = .next { s with
      phase := .starting, bSpeed := speed, ind := s.draw 1 0 == 1#1, draws := s.draws + 1
      label := { events := [.indicatorBegin pin, .startReq speed] } } :=
  whenIdle_of_idle h _

/-- Settles O32: acceptance is that of `whenIdle`, and IND and the count of free values are the two fields the statement
leaves open. -/
theorem beginStartsAttempt : Obligations.BeginStartsAttempt := by
  refine ⟨decode_cmd_begin, fun speed pin s => ⟨fun hidle => ?_, fun hbusy t hnext => ?_⟩⟩
  · exact ⟨_, execBegin_of_idle hidle speed pin, rfl⟩
  · obtain ⟨hidle, -⟩ := execBegin_next hnext
    exact hbusy hidle

/-! ## UUID -/

theorem decode_cmd_uuid (p : CmdPorts) (rx : Option Frame) : decode (.cmd 8#4 p rx) = .step .cmdUuid := rfl

/-- UUID outside STARTING completes and writes the label alone (40_init_identity.md R96). -/
theorem execUuid_of_free {s : State} (h : s.phase ≠ .starting) :
    exec .cmdUuid s = .next { s with label := { uuidOut := some s.nodeUuid } } :=
  whenHostFree_of_free h _

/-- The node address as the remainder of the hash, at its own width (40_init_identity.md R90). -/
theorem localAddr_eq_ofNat (h : UidHash) : localAddr h = BitVec.ofNat 18 (h.toNat % 65536) := by
  apply BitVec.eq_of_toNat_eq
  rw [localAddr_toNat, BitVec.toNat_ofNat]
  omega

/-- RESET leaves the host free to command and the node address captured (40_init_identity.md R90). -/
theorem execReset_phase_nodeUuid {h : UidHash} {s t : State} (hreset : exec (.evtReset h) s = .next t) :
    t.phase = .idle ∧ t.nodeUuid = localAddr h := by
  rw [execReset_next hreset]
  exact ⟨rfl, rfl⟩

/-- Settles O35: acceptance is that of `whenHostFree`, and after a RESET the block is idle with NODE_UUID captured. -/
theorem uuidReturnsAddress : Obligations.UuidReturnsAddress := by
  refine ⟨decode_cmd_uuid, fun s => ⟨execUuid_of_free, fun hstart t hnext => ?_, fun h t hreset => ?_⟩⟩
  · obtain ⟨hfree, -⟩ := execUuid_next hnext
    exact hfree hstart
  · obtain ⟨hidle, haddr⟩ := execReset_phase_nodeUuid hreset
    have hfree : t.phase ≠ .starting := by simp [hidle]
    rw [execUuid_of_free hfree, haddr, localAddr_eq_ofNat]

end Sys2Proof.Machine
end

section
/-! PROOFS. The identifier encoder and SEND (41_codec_send.md sections 1 and 2). -/

namespace Sys2Proof.Machine

/-! ## The encoder -/

/-- Settles O6: the address is below 2^18, so the two fields share no bit and `|` is `+`; the bound is that of the
29-bit word. -/
theorem encoderPacksFields : Obligations.EncoderPacksFields := fun g u =>
  ⟨enc_toNat g u, (enc g u).isLt, or_eq_add_of_fields u.isLt⟩

/-! ## SEND -/

theorem decode_cmd_send (p : CmdPorts) (rx : Option Frame) :
    decode (.cmd 2#4 p rx) = .step (.cmdSend p.data p.len p.id) := rfl

/-- SEND in RUNNING completes and writes the label alone (41_codec_send.md R102). -/
theorem execSend_of_running {s : State} (h : s.phase = .running) (data : Lanes) (len : LenOperand) (id : IdOperand) :
    exec (.cmdSend data len id) s = .next { s with
      label := { ret := some true, events := [.tx (txRecord (enc (groupOf id) s.nodeUuid) len data)] } } :=
  whenRunning_of_running h _

/-- The identifier SEND emits, as a number (41_codec_send.md R100, R102). -/
theorem enc_groupOf_toNat (id : IdOperand) (u : NodeAddr) :
    (enc (groupOf id) u).toNat = (id.toNat % 2048) * 262144 + u.toNat := by
  rw [enc_toNat, groupOf_toNat]

/-- Settles O10: acceptance is that of `whenRunning`, and the record emitted is `txRecord` of the encoded identifier. -/
theorem sendEmitsRecord : Obligations.SendEmitsRecord := by
  refine ⟨decode_cmd_send, fun data len id s => ⟨fun hrun => ?_, fun hbusy t hnext => ?_⟩⟩
  · obtain ⟨hext, hident, hlen, hcount, hbytes⟩ := txRecord_spec (enc (groupOf id) s.nodeUuid) len data
    refine ⟨_, execSend_of_running hrun data len id, hext, ?_, hlen, hcount, hbytes⟩
    rw [hident, enc_groupOf_toNat]
  · obtain ⟨hrun, -⟩ := execSend_next hnext
    exact hbusy hrun

end Sys2Proof.Machine
end

section
/-! PROOFS. The identifier decoders and READ (42_read.md sections 1 and 2). -/

namespace Sys2Proof.Machine

/-! ## The decoders -/

/-- The group is the field x[28:18] (42_read.md R110). -/
theorem decExt_fst_eq_field (x : Ident) : (decExt x).1 = x.extractLsb 28 18 := by
  have hx := x.isLt
  apply BitVec.eq_of_toNat_eq
  rw [decExt_fst_toNat, BitVec.extractLsb_toNat, Nat.shiftRight_eq_div_pow]
  omega

/-- The address is the field x[17:0] (42_read.md R110). -/
theorem decExt_snd_eq_field (x : Ident) : (decExt x).2 = x.extractLsb 17 0 := by
  apply BitVec.eq_of_toNat_eq
  rw [decExt_snd_toNat, BitVec.extractLsb_toNat, Nat.shiftRight_zero]

/-- DEC_EXT undoes ENC: the address is below 2^18, so dividing by 2^18 gives back the two fields (42_read.md R110). -/
theorem decExt_enc (g : GroupId) (u : NodeAddr) : decExt (enc g u) = (g, u) := by
  have hu := u.isLt
  have hgroup : (decExt (enc g u)).1 = g := by
    apply BitVec.eq_of_toNat_eq
    rw [decExt_fst_toNat, enc_toNat]
    omega
  have haddr : (decExt (enc g u)).2 = u := by
    apply BitVec.eq_of_toNat_eq
    rw [decExt_snd_toNat, enc_toNat]
    omega
  exact Prod.ext hgroup haddr

/-- Settles O7: the shift is the division by 2^18 and the mask its remainder, which are what DEC_EXT computes. -/
theorem decoderSplitsExtended : Obligations.DecoderSplitsExtended := by
  refine ⟨fun x => ⟨?_, ?_, decExt_fst_eq_field x, decExt_snd_eq_field x⟩, decExt_enc⟩
  · rw [decExt_fst_toNat, Nat.shiftRight_eq_div_pow]
  · rw [decExt_snd_toNat]
    exact (Nat.and_two_pow_sub_one_eq_mod x.toNat 18).symm

theorem decStd_eq (x : GroupId) : decStd x = (x, 0#18) := rfl

/-- Settles O8: DEC_STD is the pair by its definition. -/
theorem decoderTakesStandard : Obligations.DecoderTakesStandard := ⟨decStd_eq, decStd_eq _⟩

/-- The 11 bits wired into DEC_STD are the whole of an identifier below 2^11 (42_read.md R111, R114). -/
theorem decodeIdent_std_of_legal {f : Frame} (hstd : f.ext = false) (hlegal : rxLegal f = true) :
    (decodeIdent f).1.toNat = f.ident.toNat ∧ (decodeIdent f).2 = 0#18 := by
  have hsmall : f.ident.toNat < 2048 := ((rxLegal_iff f).1 hlegal).resolve_left (by simp [hstd])
  obtain ⟨hid, hsrc⟩ := decodeIdent_std f hstd
  exact ⟨hid.trans (Nat.mod_eq_of_lt hsmall), hsrc⟩

/-! ## READ -/

theorem decode_cmd_read (p : CmdPorts) (rx : Option Frame) : decode (.cmd 3#4 p rx) = .step (.cmdRead rx) := rfl

/-- A READ that completes was in RUNNING, with a frame or without one (30_encoding.md R71). -/
theorem execRead_phase {rx : Option Frame} {s t : State} (h : exec (.cmdRead rx) s = .next t) : s.phase = .running :=
  (whenRunning_next h).1

/-- READ without a frame in RUNNING completes and writes ALIVE and the label alone (42_read.md R112). -/
theorem execRead_none_of_running {s : State} (h : s.phase = .running) :
    exec (.cmdRead none) s = .next { s with
      alive := decide (s.tRemain ≠ 0#32), label := { rdKind := some .noFrame, rdValue := some 0#16 } } := by
  rw [← aliveFlag_eq_decide]
  exact whenRunning_of_running h _

/-- Settles O13: a legal frame in RUNNING is answered, `execRead_some_next` says with which state, and the tag, the value
and the indicator follow the result of MATCH on the table before the READ. -/
theorem readPollsAndFilters : Obligations.ReadPollsAndFilters := by
  refine ⟨decode_cmd_read, fun s =>
    ⟨execRead_none_of_running, fun hrun f hfits => ?_, fun hbusy rx t hnext => hbusy (execRead_phase hnext)⟩⟩
  have hlegal : rxLegal f = true := (rxLegal_iff f).2 hfits
  have hexec := execRead_some_of_running hrun hlegal
  obtain ⟨-, -, ht⟩ := execRead_some_next hexec
  rw [aliveFlag_eq_decide] at ht
  rw [ht] at hexec
  refine ⟨_, hexec, rfl, clipLen_field_toNat _, fun k => copyLanes_getElem _ _ _ k, decodeIdent_ext f,
    fun hstd => decodeIdent_std_of_legal hstd hlegal, ?_⟩
  dsimp only
  cases s.matchId (decodeIdent f).1 with
  | pass v => exact ⟨rfl, rfl⟩
  | matched v => exact ⟨rfl, rfl⟩
  | unmatched => exact ⟨rfl, rfl⟩

end Sys2Proof.Machine
end

section
/-! PROOFS. The filter comparator and the filter table (43_filter.md sections 1 to 3). -/

namespace Sys2Proof.Machine

/-! ## MATCH -/

/-- With an entry registered MATCH is the scan of the entries (43_filter.md R130). -/
theorem matchId_of_registered {s : State} (h : s.fCount ≠ 0#4) (id : GroupId) :
    s.matchId id = scanEntries id s.entries :=
  if_neg h

/-- With no entry registered every id passes (43_filter.md R130). -/
theorem matchId_of_empty {s : State} (h : s.fCount = 0#4) (id : GroupId) : s.matchId id = .pass (zextFilter id) :=
  if_pos h

/-- A registered slot shows that the table is not empty. -/
theorem fCount_ne_zero_of_lt {s : State} {k : Nat} (h : k < s.fCount.toNat) : s.fCount ≠ 0#4 := by
  intro hzero
  simp [hzero] at h

/-- Every registered entry stands in a slot below F_COUNT (10_state.md R15). -/
theorem exists_slot_of_mem_entries {s : State} {e : FilterWord × FilterWord} (h : e ∈ s.entries) :
    ∃ k : Fin 8, k.val < s.fCount.toNat ∧ e = (s.fMask[k], s.fVal[k]) := by
  obtain ⟨k, hk, he⟩ := List.mem_iff_getElem.1 h
  have hlen := entries_length s
  have hcount : k < s.fCount.toNat := by omega
  have hslot := entries_getElem? s ⟨k, by omega⟩ hcount
  rw [List.getElem?_eq_getElem hk, he] at hslot
  exact ⟨⟨k, by omega⟩, hcount, Option.some.inj hslot⟩

/-- The smallest registered slot whose masked comparison holds decides MATCH (43_filter.md R130). -/
theorem matchId_of_first_hit {s : State} {id : GroupId} {k : Fin 8} (hk : k.val < s.fCount.toNat)
    (hit : zextFilter id &&& s.fMask[k] = s.fVal[k])
    (first : ∀ j : Fin 8, j < k → zextFilter id &&& s.fMask[j] ≠ s.fVal[j]) : s.matchId id = .matched s.fVal[k] := by
  rw [matchId_of_registered (fCount_ne_zero_of_lt hk)]
  refine scanEntries_first id _ k _ (entries_getElem? s k hk) hit fun j hj d hd => ?_
  have hslot := entries_getElem? s ⟨j, by omega⟩ (hj.trans hk)
  obtain rfl := Option.some.inj (hd.symm.trans hslot)
  exact first ⟨j, by omega⟩ hj

/-- With entries registered and no masked comparison that holds, MATCH reports nothing (43_filter.md R130). -/
theorem matchId_of_no_hit {s : State} {id : GroupId} (hcount : s.fCount ≠ 0#4)
    (miss : ∀ k : Fin 8, k.val < s.fCount.toNat → zextFilter id &&& s.fMask[k] ≠ s.fVal[k]) :
    s.matchId id = .unmatched := by
  rw [matchId_of_registered hcount]
  refine scanEntries_none id _ fun e he => ?_
  obtain ⟨k, hk, rfl⟩ := exists_slot_of_mem_entries he
  exact miss k hk

/-- Settles O17: the three clauses are the empty table, the first slot that hits, and no slot that hits. -/
theorem matchFirstRegistered : Obligations.MatchFirstRegistered := fun _ id =>
  ⟨fun hempty => ⟨zextFilter id, matchId_of_empty hempty id, zextFilter_toNat id⟩,
    fun _ hk hit first => matchId_of_first_hit hk hit first,
    fun hcount miss => matchId_of_no_hit hcount miss⟩

/-! ## CLEARFILTER -/

theorem decode_cmd_clearFilter (p : CmdPorts) (rx : Option Frame) :
    decode (.cmd 5#4 p rx) = .step .cmdClearFilter := rfl

/-- CLEARFILTER outside STARTING completes and writes F_COUNT and the label alone (43_filter.md R135). -/
theorem execClearFilter_of_free {s : State} (h : s.phase ≠ .starting) :
    exec .cmdClearFilter s = .next { s with fCount := 0#4, label := {} } :=
  whenHostFree_of_free h _

/-- Settles O21: acceptance is that of `whenHostFree`, and F_COUNT is the one register written. -/
theorem clearFilterEmptiesTable : Obligations.ClearFilterEmptiesTable := by
  refine ⟨decode_cmd_clearFilter, fun s => ⟨execClearFilter_of_free, fun hstart t hnext => ?_⟩⟩
  obtain ⟨hfree, -⟩ := execClearFilter_next hnext
  exact hfree hstart

/-! ## The writers of the table -/

/-- The two states hold the same F_COUNT, F_MASK and F_VAL. -/
def State.SameTable (t s : State) : Prop :=
  t.fCount = s.fCount ∧ t.fMask = s.fMask ∧ t.fVal = s.fVal

/-- What an operation that completes can do to the table (43_filter.md R136): leave it, append to it, empty it with the
slots kept or, for RESET, empty it and leave the slots at any value. -/
theorem exec_table {i : Instr} {s t : State} (h : exec i s = .next t) :
    t.SameTable s ∨
      (∃ m v, i = .cmdRegFilter m v ∧ t.SameTable (s.appendFilter m v)) ∨
      ((i = .cmdClearFilter ∨ i = .evtStartOk) ∧ t.SameTable s.clearFilters) ∨
      ∃ uidHash, i = .evtReset uidHash ∧ t.fCount = 0#4 := by
  cases i with
  | cmdBegin => rw [(execBegin_next h).2]; exact .inl ⟨rfl, rfl, rfl⟩
  | cmdSend => rw [(execSend_next h).2]; exact .inl ⟨rfl, rfl, rfl⟩
  | cmdRead rx =>
    cases rx with
    | none => rw [(execRead_none_next h).2]; exact .inl ⟨rfl, rfl, rfl⟩
    | some f => rw [(execRead_some_next h).2.2]; exact .inl ⟨rfl, rfl, rfl⟩
  | cmdRegFilter m v => rw [(execRegFilter_next h).2]; exact .inr (.inl ⟨m, v, rfl, rfl, rfl, rfl⟩)
  | cmdClearFilter => rw [(execClearFilter_next h).2]; exact .inr (.inr (.inl ⟨.inl rfl, rfl, rfl, rfl⟩))
  | cmdAlive => rw [(execAlive_next h).2]; exact .inl ⟨rfl, rfl, rfl⟩
  | cmdSetAlive => rw [(execSetAlive_next h).2]; exact .inl ⟨rfl, rfl, rfl⟩
  | cmdUuid => rw [(execUuid_next h).2]; exact .inl ⟨rfl, rfl, rfl⟩
  | evtReset uidHash => rw [execReset_next h]; exact .inr (.inr (.inr ⟨uidHash, rfl, rfl⟩))
  | evtTick => rw [execTick_next h]; exact .inl ⟨rfl, rfl, rfl⟩
  | evtStartOk => rw [(execStartOk_next h).2]; exact .inr (.inr (.inl ⟨.inr rfl, rfl, rfl, rfl⟩))
  | evtStartFail => rw [(execStartFail_next h).2]; exact .inl ⟨rfl, rfl, rfl⟩

/-- CLEARFILTER, START_OK and RESET leave the table empty (43_filter.md R136). -/
theorem exec_clears_table {i : Instr} {s t : State} (h : exec i s = .next t)
    (hi : i = .cmdClearFilter ∨ i = .evtStartOk ∨ ∃ uidHash, i = .evtReset uidHash) : t.fCount = 0#4 := by
  obtain rfl | rfl | ⟨uidHash, rfl⟩ := hi
  · rw [(execClearFilter_next h).2]
  · rw [(execStartOk_next h).2]
  · rw [execReset_next h]

/-- An append never touches a registered slot: the one it writes is slot F_COUNT itself (43_filter.md R133). -/
theorem appendFilter_keeps_slot {s : State} {k : Fin 8} (hk : k.val < s.fCount.toNat) (m v : FilterWord) :
    (s.appendFilter m v).fMask[k] = s.fMask[k] ∧ (s.appendFilter m v).fVal[k] = s.fVal[k] := by
  by_cases hroom : s.fCount.toNat < 8
  · obtain ⟨-, hslots⟩ := appendFilter_of_room hroom m v
    obtain ⟨hmask, hval⟩ := hslots k
    rw [if_neg hk.ne] at hmask hval
    exact ⟨hmask, hval⟩
  · rw [appendFilter_of_full (Nat.le_of_not_lt hroom)]
    exact ⟨rfl, rfl⟩

/-- An append never lowers F_COUNT (43_filter.md R133). -/
theorem fCount_le_appendFilter (s : State) (m v : FilterWord) :
    s.fCount.toNat ≤ (s.appendFilter m v).fCount.toNat := by
  by_cases hroom : s.fCount.toNat < 8
  · obtain ⟨hcount, -⟩ := appendFilter_of_room hroom m v
    omega
  · rw [appendFilter_of_full (Nat.le_of_not_lt hroom)]

/-- No operation but RESET changes a registered slot (43_filter.md R136). -/
theorem exec_keeps_slot {i : Instr} {s t : State} (h : exec i s = .next t) (hreset : ∀ uidHash, i ≠ .evtReset uidHash)
    {k : Fin 8} (hk : k.val < s.fCount.toNat) : t.fMask[k] = s.fMask[k] ∧ t.fVal[k] = s.fVal[k] := by
  obtain ⟨-, hmask, hval⟩ | ⟨m, v, -, -, hmask, hval⟩ | ⟨-, -, hmask, hval⟩ | ⟨uidHash, hi, -⟩ := exec_table h
  · rw [hmask, hval]
    exact ⟨rfl, rfl⟩
  · rw [hmask, hval]
    exact appendFilter_keeps_slot hk m v
  · rw [hmask, hval]
    exact ⟨rfl, rfl⟩
  · exact absurd hi (hreset uidHash)

/-- No operation but CLEARFILTER, START_OK and RESET lowers F_COUNT (43_filter.md R136). -/
theorem fCount_le_of_exec {i : Instr} {s t : State} (h : exec i s = .next t) (hclear : i ≠ .cmdClearFilter)
    (hok : i ≠ .evtStartOk) (hreset : ∀ uidHash, i ≠ .evtReset uidHash) : s.fCount.toNat ≤ t.fCount.toNat := by
  obtain ⟨hcount, -⟩ | ⟨m, v, -, hcount, -⟩ | ⟨hi, -⟩ | ⟨uidHash, hi, -⟩ := exec_table h
  · exact hcount ▸ le_rfl
  · exact hcount ▸ fCount_le_appendFilter s m v
  · exact (hi.elim hclear hok).elim
  · exact absurd hi (hreset uidHash)

/-- An operation that changes the table is REGFILTER, CLEARFILTER, START_OK or RESET (43_filter.md R136). -/
theorem exec_table_writer {i : Instr} {s t : State} (h : exec i s = .next t) (hchanged : ¬ t.SameTable s) :
    (∃ m v, i = .cmdRegFilter m v) ∨ i = .cmdClearFilter ∨ i = .evtStartOk ∨ ∃ uidHash, i = .evtReset uidHash := by
  obtain hsame | ⟨m, v, hi, -⟩ | ⟨hi | hi, -⟩ | ⟨uidHash, hi, -⟩ := exec_table h
  · exact absurd hsame hchanged
  · exact .inl ⟨m, v, hi⟩
  · exact .inr (.inl hi)
  · exact .inr (.inr (.inl hi))
  · exact .inr (.inr (.inr ⟨uidHash, hi⟩))

/-- Settles O23: each clause reads off `exec_table` what the four possible effects on the table do to it. -/
theorem filterTableWriters : Obligations.FilterTableWriters := by
  intro i s t h
  refine ⟨fun hdiff => exec_table_writer h ?_, exec_clears_table h, fun hreset k hk => exec_keeps_slot h hreset hk,
    fCount_le_of_exec h⟩
  rintro ⟨hcount, hmask, hval⟩
  obtain hdiff | hdiff | hdiff := hdiff
  · exact hdiff hcount
  · exact hdiff hmask
  · exact hdiff hval

end Sys2Proof.Machine
end

section
/-! PROOFS. The liveness countdown: SETALIVE and ALIVE (44_liveness.md sections 3 and 4). -/

namespace Sys2Proof.Machine

/-! ## SETALIVE -/

theorem decode_cmd_setAlive (p : CmdPorts) (rx : Option Frame) :
    decode (.cmd 7#4 p rx) = .step (.cmdSetAlive p.timeout) := rfl

/-- SETALIVE outside STARTING completes and writes T_TIMEOUT, T_REMAIN and the label alone (44_liveness.md R145). -/
theorem execSetAlive_of_free {s : State} (h : s.phase ≠ .starting) (timeout : Millis) :
    exec (.cmdSetAlive timeout) s = .next { s with tTimeout := timeout, tRemain := timeout, label := {} } :=
  whenHostFree_of_free h _

/-- Settles O25: acceptance is that of `whenHostFree`, and ARM writes the two registers of the countdown. -/
theorem setAliveArms : Obligations.SetAliveArms := by
  refine ⟨decode_cmd_setAlive, fun timeout s => ⟨fun hfree => execSetAlive_of_free hfree timeout,
    fun hstart t hnext => ?_⟩⟩
  obtain ⟨hfree, -⟩ := execSetAlive_next hnext
  exact hfree hstart

/-! ## ALIVE -/

theorem decode_cmd_alive (p : CmdPorts) (rx : Option Frame) : decode (.cmd 6#4 p rx) = .step .cmdAlive := rfl

/-- ALIVE outside STARTING completes and writes the label alone (44_liveness.md R146). -/
theorem execAlive_of_free {s : State} (h : s.phase ≠ .starting) :
    exec .cmdAlive s = .next { s with label := { ret := some s.alive } } :=
  whenHostFree_of_free h _

/-- Settles O26: acceptance is that of `whenHostFree`, and the answer is the register, whatever the countdown holds. -/
theorem aliveReturnsFlag : Obligations.AliveReturnsFlag := by
  refine ⟨decode_cmd_alive, fun s => ⟨execAlive_of_free, fun hstart t hnext => ?_⟩⟩
  obtain ⟨hfree, -⟩ := execAlive_next hnext
  exact hfree hstart

end Sys2Proof.Machine
end

section
/-! PROOFS. When an operation is admitted and the state it leaves, said once for all twelve; the stops of each phase
(30_encoding.md section 4). -/

namespace Sys2Proof.Machine

/-! ## The remaining operations, where their phase admits them -/

/-- READ of a legal frame in RUNNING completes; MATCH reads the table from before the READ (42_read.md R112). -/
theorem execRead_some_completes {f : Frame} {s : State} (hrun : s.phase = .running) (hlegal : rxLegal f = true) :
    exec (.cmdRead (some f)) s = .next { s with
      alive := aliveFlag s.tRemain, tRemain := s.tTimeout, ind := indAfter (s.matchId (decodeIdent f).1)
      msgData := copyLanes (clipLen f.len.toNat) f.data s.msgData
      msgLen := BitVec.ofNat 4 (clipLen f.len.toNat), msgId := (decodeIdent f).1, msgSrc := (decodeIdent f).2
      label :=
        { rdValue := some (valueOf (s.matchId (decodeIdent f).1))
          rdKind := some (kindOf (s.matchId (decodeIdent f).1))
          events := indDrives (s.matchId (decodeIdent f).1) } } := by
  have hexec := execRead_some_of_running hrun hlegal
  obtain ⟨-, -, ht⟩ := execRead_some_next hexec
  rw [hexec, ht]

/-- REGFILTER outside STARTING completes and writes the table and the label alone (43_filter.md R133). -/
theorem execRegFilter_of_free {s : State} (h : s.phase ≠ .starting) (m v : FilterWord) :
    exec (.cmdRegFilter m v) s = .next { s.appendFilter m v with
      label := { ret := some (holdsEntry (s.appendFilter m v).fCount), rfStored := some s.hasRoom } } :=
  whenHostFree_of_free h _

/-- START_OK in STARTING completes (40_init_identity.md R94). -/
theorem execStartOk_of_starting {s : State} (h : s.phase = .starting) :
    exec .evtStartOk s = .next { s with
      fCount := 0#4, tTimeout := Config.aliveDefaultMs, tRemain := Config.aliveDefaultMs, alive := true
      ind := false, phase := .running, label := { ret := some true, events := [.indicator false] } } :=
  whenStarting_of_starting h _

/-- START_FAIL in STARTING completes (40_init_identity.md R93). -/
theorem execStartFail_of_starting {s : State} (h : s.phase = .starting) :
    exec .evtStartFail s = .next { s with
      ind := false, label := { events := [.indicator true, .indicator false, .startReq s.bSpeed] } } :=
  whenStarting_of_starting h _

/-! ## Every operation at once -/

/-- The states in which an operation completes: its phase admits it, and the record of a READ is legal
(30_encoding.md R71; 42_read.md R114). -/
def State.Admits (s : State) : Instr → Prop
  | .cmdBegin _ _ => s.phase = .idle
  | .cmdSend _ _ _ => s.phase = .running
  | .cmdRead none => s.phase = .running
  | .cmdRead (some f) => s.phase = .running ∧ rxLegal f = true
  | .cmdRegFilter _ _ => s.phase ≠ .starting
  | .cmdClearFilter => s.phase ≠ .starting
  | .cmdAlive => s.phase ≠ .starting
  | .cmdSetAlive _ => s.phase ≠ .starting
  | .cmdUuid => s.phase ≠ .starting
  | .evtReset _ => True
  | .evtTick => True
  | .evtStartOk => s.phase = .starting
  | .evtStartFail => s.phase = .starting

/-- The state an operation leaves where it completes. -/
def State.after (s : State) : Instr → State
  | .cmdBegin speed pin => { s with
      phase := .starting, bSpeed := speed, ind := s.draw 1 0 == 1#1, draws := s.draws + 1
      label := { events := [.indicatorBegin pin, .startReq speed] } }
  | .cmdSend data len id => { s with
      label := { ret := some true, events := [.tx (txRecord (enc (groupOf id) s.nodeUuid) len data)] } }
  | .cmdRead none => { s with
      alive := aliveFlag s.tRemain, label := { rdValue := some 0#16, rdKind := some .noFrame } }
  | .cmdRead (some f) => { s with
      alive := aliveFlag s.tRemain, tRemain := s.tTimeout, ind := indAfter (s.matchId (decodeIdent f).1)
      msgData := copyLanes (clipLen f.len.toNat) f.data s.msgData
      msgLen := BitVec.ofNat 4 (clipLen f.len.toNat), msgId := (decodeIdent f).1, msgSrc := (decodeIdent f).2
      label :=
        { rdValue := some (valueOf (s.matchId (decodeIdent f).1))
          rdKind := some (kindOf (s.matchId (decodeIdent f).1))
          events := indDrives (s.matchId (decodeIdent f).1) } }
  | .cmdRegFilter m v => { s.appendFilter m v with
      label := { ret := some (holdsEntry (s.appendFilter m v).fCount), rfStored := some s.hasRoom } }
  | .cmdClearFilter => { s with fCount := 0#4, label := {} }
  | .cmdAlive => { s with label := { ret := some s.alive } }
  | .cmdSetAlive v => { s with tTimeout := v, tRemain := v, label := {} }
  | .cmdUuid => { s with label := { uuidOut := some s.nodeUuid } }
  | .evtReset uidHash => { s.drawUnspecified with
      nodeUuid := localAddr uidHash, phase := .idle, fCount := 0#4, label := {} }
  | .evtTick => { s with tRemain := s.countDown.tRemain, label := {} }
  | .evtStartOk => { s with
      fCount := 0#4, tTimeout := Config.aliveDefaultMs, tRemain := Config.aliveDefaultMs, alive := true
      ind := false, phase := .running, label := { ret := some true, events := [.indicator false] } }
  | .evtStartFail => { s with
      ind := false, label := { events := [.indicator true, .indicator false, .startReq s.bSpeed] } }

/-- An operation that completes was admitted, and leaves the state `after` names. -/
theorem exec_next {i : Instr} {s t : State} (h : exec i s = .next t) : s.Admits i ∧ t = s.after i := by
  cases i with
  | cmdBegin => exact execBegin_next h
  | cmdSend => exact execSend_next h
  | cmdRead rx =>
    cases rx with
    | none => exact execRead_none_next h
    | some f =>
      obtain ⟨hrun, hlegal, ht⟩ := execRead_some_next h
      exact ⟨⟨hrun, hlegal⟩, ht⟩
  | cmdRegFilter => exact execRegFilter_next h
  | cmdClearFilter => exact execClearFilter_next h
  | cmdAlive => exact execAlive_next h
  | cmdSetAlive => exact execSetAlive_next h
  | cmdUuid => exact execUuid_next h
  | evtReset => exact ⟨trivial, execReset_next h⟩
  | evtTick => exact ⟨trivial, execTick_next h⟩
  | evtStartOk => exact execStartOk_next h
  | evtStartFail => exact execStartFail_next h

/-- An operation that is admitted completes. -/
theorem exec_of_admits {i : Instr} {s : State} (h : s.Admits i) : exec i s = .next (s.after i) := by
  cases i with
  | cmdBegin => exact execBegin_of_idle h _ _
  | cmdSend => exact execSend_of_running h _ _ _
  | cmdRead rx =>
    cases rx with
    | none => exact whenRunning_of_running h _
    | some f => exact execRead_some_completes h.1 h.2
  | cmdRegFilter => exact execRegFilter_of_free h _ _
  | cmdClearFilter => exact execClearFilter_of_free h
  | cmdAlive => exact execAlive_of_free h
  | cmdSetAlive => exact execSetAlive_of_free h _
  | cmdUuid => exact execUuid_of_free h
  | evtReset => rfl
  | evtTick => rfl
  | evtStartOk => exact execStartOk_of_starting h
  | evtStartFail => exact execStartFail_of_starting h

/-- What admits an operation is PHASE alone. -/
theorem admits_of_phase {s t : State} (hphase : t.phase = s.phase) (i : Instr) : t.Admits i ↔ s.Admits i := by
  cases i with
  | cmdRead rx => cases rx <;> simp only [State.Admits, hphase]
  | _ => simp only [State.Admits, hphase]

/-! ## The stops of each phase (30_encoding.md R71) -/

theorem whenIdle_of_starting {s : State} (h : s.phase = .starting) (r : Result) :
    whenIdle s r = .fault .hostBlocked := by
  simp only [whenIdle, h]

theorem whenIdle_of_running {s : State} (h : s.phase = .running) (r : Result) :
    whenIdle s r = .refused .alreadyStarted := by
  simp only [whenIdle, h]

theorem whenRunning_of_idle {s : State} (h : s.phase = .idle) (r : Result) :
    whenRunning s r = .refused .notStarted := by
  simp only [whenRunning, h]

theorem whenRunning_of_starting {s : State} (h : s.phase = .starting) (r : Result) :
    whenRunning s r = .fault .hostBlocked := by
  simp only [whenRunning, h]

theorem whenHostFree_of_starting {s : State} (h : s.phase = .starting) (r : Result) :
    whenHostFree s r = .fault .hostBlocked := by
  simp only [whenHostFree, h]

/-- In RUNNING the one check on an operand is that of READ (30_encoding.md R73). -/
theorem admits_read_of_wellFormed {s : State} (hrun : s.phase = .running) {rx : Option Frame}
    (hwf : (Instr.cmdRead rx).wellFormed = true) : s.Admits (.cmdRead rx) := by
  cases rx with
  | none => exact hrun
  | some f => exact ⟨hrun, hwf⟩

/-- Settles O38: in each phase the operations fall into the four acceptance classes of 30_encoding.md R71. -/
theorem acceptanceByPhase : Obligations.AcceptanceByPhase := by
  intro i s hwf
  cases hphase : s.phase with
  | idle =>
    have hfree : s.phase ≠ .starting := by simp [hphase]
    cases i with
    | cmdBegin => exact ⟨_, execBegin_of_idle hphase _ _⟩
    | cmdSend | cmdRead => exact whenRunning_of_idle hphase _
    | cmdRegFilter | cmdClearFilter | cmdAlive | cmdSetAlive | cmdUuid => exact ⟨_, whenHostFree_of_free hfree _⟩
    | evtReset | evtTick => exact ⟨_, rfl⟩
    | evtStartOk | evtStartFail => exact whenStarting_of_not hfree _
  | starting =>
    cases i with
    | cmdBegin => exact whenIdle_of_starting hphase _
    | cmdSend | cmdRead => exact whenRunning_of_starting hphase _
    | cmdRegFilter | cmdClearFilter | cmdAlive | cmdSetAlive | cmdUuid => exact whenHostFree_of_starting hphase _
    | evtReset | evtTick => exact ⟨_, rfl⟩
    | evtStartOk | evtStartFail => exact ⟨_, whenStarting_of_starting hphase _⟩
  | running =>
    have hfree : s.phase ≠ .starting := by simp [hphase]
    cases i with
    | cmdBegin => exact whenIdle_of_running hphase _
    | cmdSend => exact ⟨_, whenRunning_of_running hphase _⟩
    | cmdRead => exact ⟨_, exec_of_admits (admits_read_of_wellFormed hphase hwf)⟩
    | cmdRegFilter | cmdClearFilter | cmdAlive | cmdSetAlive | cmdUuid => exact ⟨_, whenHostFree_of_free hfree _⟩
    | evtReset | evtTick => exact ⟨_, rfl⟩
    | evtStartOk | evtStartFail => exact whenStarting_of_not hfree _

end Sys2Proof.Machine
end

section
/-! PROOFS. Decoding, encoding and the step (30_encoding.md sections 2 to 5). -/

namespace Sys2Proof.Machine

theorem decode_encode (i : Instr) : decode (encode i) = .step i := by
  cases i <;> rfl

/-- Two samples of the same format that carry the same code on its port. -/
def SameCode : Sample → Sample → Prop
  | .cmd op _ _, .cmd op' _ _ => op = op'
  | .evt pins _, .evt pins' _ => pins = pins'
  | .cmd _ _ _, .evt _ _ => False
  | .evt _ _, .cmd _ _ _ => False

/-- The command port selects an operation by the code the encoder puts on it (30_encoding.md R70). -/
theorem decodeCmd_step_code {op : Code} {p : CmdPorts} {rx : Option Frame} {i : Instr}
    (h : decodeCmd op p rx = .step i) : SameCode (.cmd op p rx) (encode i) := by
  unfold decodeCmd at h
  split at h <;> cases h <;> rfl

/-- The event pins select an operation by the code the encoder puts on them (30_encoding.md R70). -/
theorem decodeEvt_step_code {pins : Code} {uidHash : UidHash} {i : Instr}
    (h : decodeEvt pins uidHash = .step i) : SameCode (.evt pins uidHash) (encode i) := by
  unfold decodeEvt at h
  split at h <;> cases h <;> rfl

/-- Settles O4: each operation's encoding decodes by its own arm, and an arm of either decoder names its code. -/
theorem decodeEncodeAgree : Obligations.DecodeEncodeAgree := by
  refine ⟨decode_encode, fun w i h => ?_⟩
  cases w with
  | cmd op p rx =>
    have hcode := decodeCmd_step_code h
    revert hcode
    cases encode i <;> exact id
  | evt pins uidHash =>
    have hcode := decodeEvt_step_code h
    revert hcode
    cases encode i <;> exact id

/-- Settles O5: each sample is decoded by the arm its code selects. -/
theorem operationMapSamples : Obligations.OperationMapSamples := ⟨rfl, rfl, rfl, rfl, rfl, rfl, rfl⟩

/-! ## The step -/

theorem step_of_decode {s t : State} {w : Sample} {i : Instr} (htake : s.takeSample = some (w, t))
    (hdec : decode w = .step i) : step s = exec i t := by
  rw [step_take htake, hdec]

theorem step_of_idle {s t : State} {w : Sample} (htake : s.takeSample = some (w, t)) (hdec : decode w = .idle) :
    step s = .next t := by
  rw [step_take htake, hdec]

theorem step_of_reject {s t : State} {w : Sample} {why : DecodeError} (htake : s.takeSample = some (w, t))
    (hdec : decode w = .reject why) : step s = .refused (.undecoded why) := by
  rw [step_take htake, hdec]

/-- Settles O1: the sample taken is the head of the trace, or of the repeated samples once the trace is used up. -/
theorem stepRunsDecodedOperation : Obligations.StepRunsDecodedOperation := fun _ _ _ _ hdec =>
  ⟨fun htrace => step_of_decode (takeSample_cons htrace) hdec,
    fun htrace hrepeats => step_of_decode (takeSample_repeats htrace hrepeats) hdec⟩

/-- Settles O2: without a sample the step is silent, and the pins 0b0000 decode to no event. -/
theorem stepWithoutOperationIdles : Obligations.StepWithoutOperationIdles := fun _ =>
  ⟨fun htrace hrepeats => step_none (takeSample_silent htrace hrepeats),
    fun _ _ htake => ⟨step_of_idle htake rfl, (takeSample_some htake).2⟩⟩

/-! ## Reserved samples -/

/-- The codes 0 and 9 to 15 have no arm of their own (30_encoding.md R72). -/
theorem decodeCmd_of_reserved {op : Code} (h : op.toNat = 0 ∨ 9 ≤ op.toNat) (p : CmdPorts) (rx : Option Frame) :
    decodeCmd op p rx = .reject (.reservedOpcode op) := by
  unfold decodeCmd
  split
  case h_9 => rfl
  all_goals simp at h

/-- Pins that select no or one event have at most one bit set (30_encoding.md R67). -/
theorem decodeEvt_of_two_pins {pins : Code} {a b : Fin 4} (hab : a ≠ b) (ha : pins.getLsbD a.val = true)
    (hb : pins.getLsbD b.val = true) (uidHash : UidHash) :
    decodeEvt pins uidHash = .reject (.multipleEvents pins) := by
  have hsingle : ∀ c : Fin 4, ∀ a b : Fin 4, a ≠ b → (1#4 <<< c.val).getLsbD a.val = true →
      (1#4 <<< c.val).getLsbD b.val = false := by decide
  unfold decodeEvt
  split
  · simp at ha
  · exact absurd (hsingle 3 a b hab ha) (by simpa using hb)
  · exact absurd (hsingle 2 a b hab ha) (by simpa using hb)
  · exact absurd (hsingle 1 a b hab ha) (by simpa using hb)
  · exact absurd (hsingle 0 a b hab ha) (by simpa using hb)
  · rfl

/-- Settles O3: a reserved code falls through every arm of its decoder, and the step refuses what decodes to nothing. -/
theorem reservedSamplesRefused : Obligations.ReservedSamplesRefused := fun _ _ =>
  ⟨fun _ p rx htake hres => step_of_reject htake (decodeCmd_of_reserved hres p rx),
    fun _ uidHash htake ⟨_, _, hab, ha, hb⟩ => step_of_reject htake (decodeEvt_of_two_pins hab ha hb uidHash)⟩

end Sys2Proof.Machine
end

section
/-! PROOFS. Which operations write which registers (10_state.md section 8; 60_exceptions.md section 5). -/

namespace Sys2Proof.Machine

/-! ## PHASE -/

/-- The moves of PHASE, and the operation that makes each (60_exceptions.md section 5). -/
theorem exec_phase {i : Instr} {s t : State} (h : exec i s = .next t) :
    t.phase = s.phase ∨
      (s.phase = .idle ∧ t.phase = .starting ∧ ∃ v p, i = .cmdBegin v p) ∨
      (s.phase = .starting ∧ t.phase = .running ∧ i = .evtStartOk) ∨
      (t.phase = .idle ∧ ∃ uidHash, i = .evtReset uidHash) := by
  obtain ⟨hadm, rfl⟩ := exec_next h
  cases i with
  | cmdBegin v p => exact .inr (.inl ⟨hadm, rfl, v, p, rfl⟩)
  | evtStartOk => exact .inr (.inr (.inl ⟨hadm, rfl, rfl⟩))
  | evtReset uidHash => exact .inr (.inr (.inr ⟨rfl, uidHash, rfl⟩))
  | cmdRegFilter m v => exact .inl (appendFilter_phase s m v)
  | cmdRead rx => cases rx <;> exact .inl rfl
  | _ => exact .inl rfl

/-- Only START_OK and RESET leave STARTING (40_init_identity.md R95). -/
theorem exec_leaves_starting {i : Instr} {s t : State} (h : exec i s = .next t) (hstart : s.phase = .starting)
    (hleft : t.phase ≠ .starting) : i = .evtStartOk ∨ ∃ uidHash, i = .evtReset uidHash := by
  obtain hsame | ⟨hidle, -⟩ | ⟨-, -, hi⟩ | ⟨-, hi⟩ := exec_phase h
  · exact absurd (hsame.trans hstart) hleft
  · simp [hstart] at hidle
  · exact .inl hi
  · exact .inr hi

/-- Settles O37: a step that leaves STARTING performed an operation that does. -/
theorem phaseMovesOnlyAsSpecified : Obligations.PhaseMovesOnlyAsSpecified := by
  refine ⟨fun _ _ _ => exec_phase, fun s t h hstart hleft => ?_⟩
  obtain ⟨-, rfl⟩ | ⟨w, htake, -⟩ | ⟨w, u, i, htake, hdec, hexec⟩ := step_next h
  · exact absurd hstart hleft
  · obtain ⟨-, ht⟩ := takeSample_some htake
    rw [ht] at hleft
    exact absurd hstart hleft
  · obtain ⟨-, hu⟩ := takeSample_some htake
    have hstart' : u.phase = .starting := by rw [hu]; exact hstart
    refine ⟨w, u, htake, ?_⟩
    obtain rfl | ⟨uidHash, rfl⟩ := exec_leaves_starting hexec hstart' hleft
    · exact .inl hdec
    · exact .inr ⟨uidHash, hdec⟩

/-! ## The registers, each with the operations that write it (10_state.md section 8) -/

theorem after_nodeUuid (i : Instr) (s : State) :
    (s.after i).nodeUuid = s.nodeUuid ∨ ∃ uidHash, i = .evtReset uidHash := by
  cases i with
  | evtReset uidHash => exact .inr ⟨uidHash, rfl⟩
  | cmdRegFilter m v => exact .inl (appendFilter_nodeUuid s m v)
  | cmdRead rx => cases rx <;> exact .inl rfl
  | _ => exact .inl rfl

theorem after_bSpeed (i : Instr) (s : State) :
    (s.after i).bSpeed = s.bSpeed ∨ (∃ v p, i = .cmdBegin v p) ∨ ∃ uidHash, i = .evtReset uidHash := by
  cases i with
  | cmdBegin v p => exact .inr (.inl ⟨v, p, rfl⟩)
  | evtReset uidHash => exact .inr (.inr ⟨uidHash, rfl⟩)
  | cmdRegFilter m v => exact .inl (appendFilter_bSpeed s m v)
  | cmdRead rx => cases rx <;> exact .inl rfl
  | _ => exact .inl rfl

theorem after_alive (i : Instr) (s : State) :
    (s.after i).alive = s.alive ∨ (∃ rx, i = .cmdRead rx) ∨ i = .evtStartOk ∨ ∃ uidHash, i = .evtReset uidHash := by
  cases i with
  | cmdRead rx => exact .inr (.inl ⟨rx, rfl⟩)
  | evtStartOk => exact .inr (.inr (.inl rfl))
  | evtReset uidHash => exact .inr (.inr (.inr ⟨uidHash, rfl⟩))
  | cmdRegFilter m v => exact .inl (appendFilter_alive s m v)
  | _ => exact .inl rfl

theorem after_tTimeout (i : Instr) (s : State) :
    (s.after i).tTimeout = s.tTimeout ∨
      (∃ v, i = .cmdSetAlive v) ∨ i = .evtStartOk ∨ ∃ uidHash, i = .evtReset uidHash := by
  cases i with
  | cmdSetAlive v => exact .inr (.inl ⟨v, rfl⟩)
  | evtStartOk => exact .inr (.inr (.inl rfl))
  | evtReset uidHash => exact .inr (.inr (.inr ⟨uidHash, rfl⟩))
  | cmdRegFilter m v => exact .inl (appendFilter_tTimeout s m v)
  | cmdRead rx => cases rx <;> exact .inl rfl
  | _ => exact .inl rfl

theorem after_tRemain (i : Instr) (s : State) :
    (s.after i).tRemain = s.tRemain ∨
      (∃ v, i = .cmdSetAlive v) ∨ i = .evtStartOk ∨ i = .evtTick ∨ (∃ f, i = .cmdRead (some f)) ∨
        ∃ uidHash, i = .evtReset uidHash := by
  cases i with
  | cmdSetAlive v => exact .inr (.inl ⟨v, rfl⟩)
  | evtStartOk => exact .inr (.inr (.inl rfl))
  | evtTick => exact .inr (.inr (.inr (.inl rfl)))
  | cmdRead rx =>
    cases rx with
    | none => exact .inl rfl
    | some f => exact .inr (.inr (.inr (.inr (.inl ⟨f, rfl⟩))))
  | evtReset uidHash => exact .inr (.inr (.inr (.inr (.inr ⟨uidHash, rfl⟩))))
  | cmdRegFilter m v => exact .inl (appendFilter_tRemain s m v)
  | _ => exact .inl rfl

theorem after_ind (i : Instr) (s : State) :
    (s.after i).ind = s.ind ∨
      (∃ v p, i = .cmdBegin v p) ∨ i = .evtStartFail ∨ i = .evtStartOk ∨ (∃ f, i = .cmdRead (some f)) ∨
        ∃ uidHash, i = .evtReset uidHash := by
  cases i with
  | cmdBegin v p => exact .inr (.inl ⟨v, p, rfl⟩)
  | evtStartFail => exact .inr (.inr (.inl rfl))
  | evtStartOk => exact .inr (.inr (.inr (.inl rfl)))
  | cmdRead rx =>
    cases rx with
    | none => exact .inl rfl
    | some f => exact .inr (.inr (.inr (.inr (.inl ⟨f, rfl⟩))))
  | evtReset uidHash => exact .inr (.inr (.inr (.inr (.inr ⟨uidHash, rfl⟩))))
  | cmdRegFilter m v => exact .inl (appendFilter_ind s m v)
  | _ => exact .inl rfl

/-- The two states hold the same message buffer (10_state.md R26 to R29). -/
def State.SameMessage (t s : State) : Prop :=
  t.msgId = s.msgId ∧ t.msgSrc = s.msgSrc ∧ t.msgLen = s.msgLen ∧ t.msgData = s.msgData

theorem after_message (i : Instr) (s : State) :
    (s.after i).SameMessage s ∨ (∃ f, i = .cmdRead (some f)) ∨ ∃ uidHash, i = .evtReset uidHash := by
  cases i with
  | cmdRead rx =>
    cases rx with
    | none => exact .inl ⟨rfl, rfl, rfl, rfl⟩
    | some f => exact .inr (.inl ⟨f, rfl⟩)
  | evtReset uidHash => exact .inr (.inr ⟨uidHash, rfl⟩)
  | cmdRegFilter m v =>
    exact .inl ⟨appendFilter_msgId s m v, appendFilter_msgSrc s m v, appendFilter_msgLen s m v,
      appendFilter_msgData s m v⟩
  | _ => exact .inl ⟨rfl, rfl, rfl, rfl⟩

/-- Settles O39: a register that changed was written, so the operation is one of its writers. -/
theorem identityAndSpeedWriters : Obligations.IdentityAndSpeedWriters := by
  intro i s t h
  obtain ⟨-, rfl⟩ := exec_next h
  exact ⟨(after_nodeUuid i s).resolve_left, (after_bSpeed i s).resolve_left⟩

/-- Settles O40: as for the identity, from the writers of the three registers of the liveness controller. -/
theorem livenessRegisterWriters : Obligations.LivenessRegisterWriters := by
  intro i s t h
  obtain ⟨-, rfl⟩ := exec_next h
  exact ⟨(after_alive i s).resolve_left, (after_tTimeout i s).resolve_left, (after_tRemain i s).resolve_left⟩

/-- Settles O41: as for the identity, from the writers of IND and of the message buffer as a whole. -/
theorem outputRegisterWriters : Obligations.OutputRegisterWriters := by
  intro i s t h
  obtain ⟨-, rfl⟩ := exec_next h
  refine ⟨(after_ind i s).resolve_left, fun hdiff => (after_message i s).resolve_left ?_⟩
  rintro ⟨hid, hsrc, hlen, hdata⟩
  obtain hdiff | hdiff | hdiff | hdiff := hdiff
  · exact hdiff hid
  · exact hdiff hsrc
  · exact hdiff hlen
  · exact hdiff hdata

end Sys2Proof.Machine
end

section
/-! PROOFS. The invariant of the machine, and the countdown as an invariant (10_state.md; 44_liveness.md section 5). -/

namespace Sys2Proof.Machine

/-! ## Taking a sample changes nothing a claim speaks of -/

/-- A property of a state that holds at every state an operation leaves, and that no sample taken changes, is kept by
every step. -/
theorem step_preserves {P : State → Prop} {s t : State}
    (htrace : ∀ (u : State) (l : List Sample), P u → P { u with trace := l })
    (hexec : ∀ (i : Instr) (u v : State), P u → exec i u = .next v → P v) (hs : P s) (h : step s = .next t) : P t := by
  obtain ⟨-, rfl⟩ | ⟨w, htake, -⟩ | ⟨w, u, i, htake, -, he⟩ := step_next h
  · exact hs
  · obtain ⟨-, ht⟩ := takeSample_some htake
    rw [ht]
    exact htrace s _ hs
  · obtain ⟨-, hu⟩ := takeSample_some htake
    refine hexec i u t ?_ he
    rw [hu]
    exact htrace s _ hs

/-! ## The clauses of the invariant, at the state an operation leaves -/

theorem localAddr_lt (h : UidHash) : (localAddr h).toNat < 65536 := by
  rw [localAddr_toNat]
  omega

theorem after_nodeUuid_lt {s : State} (h : s.nodeUuid.toNat < 65536) (i : Instr) :
    (s.after i).nodeUuid.toNat < 65536 := by
  obtain hsame | ⟨uidHash, rfl⟩ := after_nodeUuid i s
  · rwa [hsame]
  · exact localAddr_lt uidHash

theorem appendFilter_fCount_le {s : State} (h : s.fCount.toNat ≤ 8) (m v : FilterWord) :
    (s.appendFilter m v).fCount.toNat ≤ 8 := by
  by_cases hroom : s.fCount.toNat < 8
  · obtain ⟨hcount, -⟩ := appendFilter_of_room hroom m v
    omega
  · rwa [appendFilter_of_full (Nat.le_of_not_lt hroom)]

theorem exec_fCount_le {i : Instr} {s t : State} (h : s.fCount.toNat ≤ 8) (hexec : exec i s = .next t) :
    t.fCount.toNat ≤ 8 := by
  obtain ⟨hcount, -⟩ | ⟨m, v, -, hcount, -⟩ | ⟨-, hcount, -⟩ | ⟨uidHash, -, hcount⟩ := exec_table hexec
  · rwa [hcount]
  · rw [hcount]
    exact appendFilter_fCount_le h m v
  · simp [hcount]
  · simp [hcount]

theorem clipLen_field_le (n : Nat) : (BitVec.ofNat 4 (clipLen n)).toNat ≤ 8 := by
  rw [clipLen_field_toNat]
  exact Nat.min_le_right n 8

theorem after_msgLen_le {s : State} (h : s.msgLen.toNat ≤ 8) (i : Instr) : (s.after i).msgLen.toNat ≤ 8 := by
  obtain ⟨-, -, hlen, -⟩ | ⟨f, rfl⟩ | ⟨uidHash, rfl⟩ := after_message i s
  · rwa [hlen]
  · exact clipLen_field_le _
  · exact clipLen_field_le _

/-- In RUNNING the countdown never exceeds its timeout: it is loaded with it, and a TICK only lowers it
(44_liveness.md R148). -/
theorem after_countdown_le {s : State} (h : s.phase = .running → s.tRemain.toNat ≤ s.tTimeout.toNat) (i : Instr)
    (hrun : (s.after i).phase = .running) : (s.after i).tRemain.toNat ≤ (s.after i).tTimeout.toNat := by
  cases i with
  | cmdRegFilter m v =>
    simp only [State.after, appendFilter_phase, appendFilter_tRemain, appendFilter_tTimeout] at hrun ⊢
    exact h hrun
  | cmdRead rx =>
    cases rx with
    | none => exact h hrun
    | some f => exact le_rfl
  | evtTick =>
    have hle := h hrun
    have htick := countDown_tRemain_toNat s
    show s.countDown.tRemain.toNat ≤ s.tTimeout.toNat
    omega
  | cmdSetAlive | evtStartOk => exact le_rfl
  | cmdBegin | evtReset => cases hrun
  | _ => exact h hrun

/-- The one operation that emits a record is SEND (41_codec_send.md R102). -/
theorem tx_mem_after_events {i : Instr} {s : State} {r : TxRecord} (h : OutEvent.tx r ∈ (s.after i).label.events) :
    ∃ data len id, i = .cmdSend data len id ∧ r = txRecord (enc (groupOf id) s.nodeUuid) len data := by
  cases i with
  | cmdSend data len id =>
    refine ⟨data, len, id, rfl, ?_⟩
    simpa [State.after] using h
  | cmdRead rx =>
    cases rx with
    | none => simp [State.after] at h
    | some f =>
      simp only [State.after] at h
      cases hm : s.matchId (decodeIdent f).1 <;> simp [hm, indDrives] at h
  | _ => simp [State.after] at h

/-- A record SEND emits is legal when NODE_UUID has 16 significant bits (30_encoding.md R62, R64). -/
theorem txRecord_legal {u : NodeAddr} (hu : u.toNat < 65536) (g : GroupId) (len : LenOperand) (data : Lanes) :
    LegalTx (txRecord (enc g u) len data) := by
  obtain ⟨hext, hident, hlen, hcount, -⟩ := txRecord_spec (enc g u) len data
  refine ⟨hext, ?_, hcount.trans hlen.symm, ?_⟩
  · rw [hident, enc_toNat]
    omega
  · rw [hlen]
    exact Nat.min_le_right _ 8

theorem exec_keeps_inv {i : Instr} {s t : State} (hinv : s.Inv) (hexec : exec i s = .next t) : t.Inv := by
  obtain ⟨huuid, hcount, hlen, hcountdown, -⟩ := hinv
  have hcount' := exec_fCount_le hcount hexec
  obtain ⟨-, rfl⟩ := exec_next hexec
  refine ⟨after_nodeUuid_lt huuid i, hcount', after_msgLen_le hlen i, after_countdown_le hcountdown i, fun r hr => ?_⟩
  obtain ⟨data, len, id, -, rfl⟩ := tx_mem_after_events hr
  exact txRecord_legal huuid _ len data

/-- Settles O42: the invariant does not speak of the samples to come, and every operation keeps it clause by clause. -/
theorem stepKeepsInvariant : Obligations.StepKeepsInvariant := fun _ _ hinv h =>
  step_preserves (fun _ _ hu => hu) (fun _ _ _ => exec_keeps_inv) hinv h

/-- Settles O43: NODE_UUID is captured as RESET captures it, and the other clauses hold of zero. -/
theorem resetSatisfiesInvariant : Obligations.ResetSatisfiesInvariant := by
  refine ⟨localAddr_lt _, Nat.zero_le 8, Nat.zero_le 8, fun hrun => ?_, fun r hr => ?_⟩
  · cases hrun
  · cases hr

/-! ## The countdown -/

/-- T_REMAIN is T_TIMEOUT less the TICKs since it was last loaded, and no operation but RESET loses count
(44_liveness.md R141, R142, R144). -/
theorem after_tracks_ticks {s : State} {n : Nat} (h : s.tRemain.toNat = s.tTimeout.toNat - n) {i : Instr}
    (hreset : ∀ uidHash, i ≠ .evtReset uidHash) :
    (s.after i).tRemain.toNat = (s.after i).tTimeout.toNat - ticksSinceLoad n i := by
  cases i with
  | cmdRegFilter m v =>
    simp only [State.after, appendFilter_tRemain, appendFilter_tTimeout]
    exact h
  | cmdRead rx =>
    cases rx with
    | none => exact h
    | some f => rfl
  | evtTick =>
    have htick := countDown_tRemain_toNat s
    show s.countDown.tRemain.toNat = s.tTimeout.toNat - (n + 1)
    omega
  | evtReset uidHash => exact absurd rfl (hreset uidHash)
  | cmdSetAlive | evtStartOk => rfl
  | _ => exact h

theorem ticksAfterStep_none {s : State} (h : s.takeSample = none) (n : Nat) : s.ticksAfterStep n = n := by
  simp only [State.ticksAfterStep, h]

theorem ticksAfterStep_idle {s u : State} {w : Sample} (h : s.takeSample = some (w, u)) (hdec : decode w = .idle)
    (n : Nat) : s.ticksAfterStep n = n := by
  simp only [State.ticksAfterStep, h, hdec]

theorem ticksAfterStep_step {s u : State} {w : Sample} {i : Instr} (h : s.takeSample = some (w, u))
    (hdec : decode w = .step i) (n : Nat) : s.ticksAfterStep n = ticksSinceLoad n i := by
  simp only [State.ticksAfterStep, h, hdec]

/-- Settles O49: a step counts as the operation it performs does, and not at all where it performs none. -/
theorem countdownTracksTicks : Obligations.CountdownTracksTicks := by
  intro s t n hs h hreset
  obtain ⟨hnone, rfl⟩ | ⟨w, htake, hdec⟩ | ⟨w, u, i, htake, hdec, hexec⟩ := step_next h
  · rwa [ticksAfterStep_none hnone]
  · obtain ⟨-, ht⟩ := takeSample_some htake
    rw [ticksAfterStep_idle htake hdec, ht]
    exact hs
  · obtain ⟨-, hu⟩ := takeSample_some htake
    have hcount : u.tRemain.toNat = u.tTimeout.toNat - n := by rw [hu]; exact hs
    obtain ⟨-, rfl⟩ := exec_next hexec
    rw [ticksAfterStep_step htake hdec]
    exact after_tracks_ticks hcount fun uidHash hi => hreset w u uidHash htake (hi ▸ hdec)

end Sys2Proof.Machine
end

section
/-! PROOFS. Filter slots at and above F_COUNT are never observed (10_state.md section 3; 43_filter.md section 3). -/

namespace Sys2Proof.Machine

/-! ## States that agree on everything reachable -/

theorem agree_refl (s : State) : s.AgreeOnReachable s := ⟨rfl, fun _ _ => ⟨rfl, rfl⟩⟩

theorem agree_inputs {s t : State} (h : s.AgreeOnReachable t) : t.trace = s.trace ∧ t.repeats = s.repeats := by
  obtain ⟨ht, -⟩ := h
  rw [ht]
  exact ⟨rfl, rfl⟩

theorem agree_phase {s t : State} (h : s.AgreeOnReachable t) : t.phase = s.phase := by
  obtain ⟨ht, -⟩ := h
  rw [ht]

theorem agree_fCount {s t : State} (h : s.AgreeOnReachable t) : t.fCount = s.fCount := by
  obtain ⟨ht, -⟩ := h
  rw [ht]

theorem agree_withTrace {s t : State} (h : s.AgreeOnReachable t) (l : List Sample) :
    State.AgreeOnReachable { s with trace := l } { t with trace := l } := by
  obtain ⟨ht, hslots⟩ := h
  exact ⟨congrArg (fun u : State => { u with trace := l }) ht, hslots⟩

theorem agree_withLabel {s t : State} (h : s.AgreeOnReachable t) {l l' : Label} (hl : l' = l) :
    State.AgreeOnReachable { s with label := l } { t with label := l' } := by
  subst hl
  obtain ⟨ht, hslots⟩ := h
  exact ⟨congrArg (fun u : State => { u with label := l' }) ht, hslots⟩

/-- States that agree have the same registered entries (10_state.md R15). -/
theorem agree_entries {s t : State} (h : s.AgreeOnReachable t) : t.entries = s.entries := by
  have hcount := agree_fCount h
  obtain ⟨-, hslots⟩ := h
  have hlen : t.entries.length = s.entries.length := by rw [entries_length, entries_length, hcount]
  refine List.ext_getElem? fun k => ?_
  by_cases hk : k < s.entries.length
  · rw [entries_length] at hk
    have hreg : k < s.fCount.toNat := by omega
    obtain ⟨hmask, hval⟩ := hslots ⟨k, by omega⟩ hreg
    rw [entries_getElem? t ⟨k, by omega⟩ (hcount ▸ hreg), entries_getElem? s ⟨k, by omega⟩ hreg, hmask, hval]
  · rw [List.getElem?_eq_none (by omega), List.getElem?_eq_none (by omega)]

theorem agree_matchId {s t : State} (h : s.AgreeOnReachable t) (id : GroupId) : t.matchId id = s.matchId id :=
  matchId_congr id (agree_fCount h) (agree_entries h)

/-- An append reads the old slots only to keep them (43_filter.md R133). -/
theorem appendFilter_withSlots (s : State) (a b : Vector FilterWord 8) (m v : FilterWord) :
    State.appendFilter { s with fMask := a, fVal := b } m v = { s.appendFilter m v with
      fMask := (State.appendFilter { s with fMask := a, fVal := b } m v).fMask
      fVal := (State.appendFilter { s with fMask := a, fVal := b } m v).fVal } := by
  unfold State.appendFilter
  split <;> rfl

/-- An append writes the same slot of both tables, and that slot is reachable from then on (43_filter.md R133). -/
theorem agree_appendFilter {s t : State} (h : s.AgreeOnReachable t) (m v : FilterWord) :
    (s.appendFilter m v).AgreeOnReachable (t.appendFilter m v) := by
  have hcount := agree_fCount h
  obtain ⟨heq, hslots⟩ := h
  refine ⟨by rw [heq]; exact appendFilter_withSlots s _ _ m v, fun k hk => ?_⟩
  by_cases hroom : s.fCount.toNat < 8
  · obtain ⟨hlen, hs⟩ := appendFilter_of_room hroom m v
    obtain ⟨-, ht⟩ := appendFilter_of_room (hcount ▸ hroom : t.fCount.toNat < 8) m v
    obtain ⟨hsm, hsv⟩ := hs k
    obtain ⟨htm, htv⟩ := ht k
    rw [hcount] at htm htv
    rw [hsm, hsv, htm, htv]
    by_cases hnew : k.val = s.fCount.toNat
    · simp only [hnew, if_true, and_self]
    · simp only [hnew, if_false]
      exact hslots k (by omega)
  · have hfull := Nat.le_of_not_lt hroom
    rw [appendFilter_of_full hfull] at hk
    rw [appendFilter_of_full hfull, appendFilter_of_full (hcount ▸ hfull)]
    exact hslots k hk

/-- Operations admitted at states that agree leave states that agree, labels included. -/
theorem agree_after {s t : State} (h : s.AgreeOnReachable t) (i : Instr) :
    (s.after i).AgreeOnReachable (t.after i) := by
  cases i with
  | cmdRegFilter m v =>
    have happend := agree_appendFilter h m v
    have hroom : t.hasRoom = s.hasRoom := by simp only [State.hasRoom, agree_fCount h]
    exact agree_withLabel happend (by rw [agree_fCount happend, hroom])
  | cmdRead rx =>
    cases rx with
    | none =>
      obtain ⟨ht, hslots⟩ := h
      rw [ht]
      exact ⟨rfl, hslots⟩
    | some f =>
      simp only [State.after, agree_matchId h]
      obtain ⟨ht, hslots⟩ := h
      rw [ht]
      exact ⟨rfl, hslots⟩
  | cmdClearFilter | evtStartOk =>
    obtain ⟨ht, -⟩ := h
    rw [ht]
    exact ⟨rfl, fun _ hk => absurd hk (Nat.not_lt_zero _)⟩
  | evtReset uidHash =>
    obtain ⟨ht, -⟩ := h
    rw [ht]
    exact agree_refl _
  | _ =>
    obtain ⟨ht, hslots⟩ := h
    rw [ht]
    exact ⟨rfl, hslots⟩

/-! ## A stop depends on the operation and on PHASE alone (30_encoding.md R71) -/

section Stops

variable {s t : State} (hphase : t.phase = s.phase)
include hphase

theorem whenIdle_stop (h : s.phase ≠ .idle) (r r' : Result) : whenIdle t r' = whenIdle s r := by
  simp only [whenIdle, hphase]
  cases hp : s.phase with
  | idle => exact absurd hp h
  | starting | running => rfl

theorem whenRunning_stop (h : s.phase ≠ .running) (r r' : Result) : whenRunning t r' = whenRunning s r := by
  simp only [whenRunning, hphase]
  cases hp : s.phase with
  | running => exact absurd hp h
  | idle | starting => rfl

theorem whenHostFree_stop (h : s.phase = .starting) (r r' : Result) : whenHostFree t r' = whenHostFree s r := by
  rw [whenHostFree_of_starting (hphase.trans h), whenHostFree_of_starting h]

theorem whenStarting_stop (h : s.phase ≠ .starting) (r r' : Result) : whenStarting t r' = whenStarting s r := by
  rw [whenStarting_of_not (hphase ▸ h), whenStarting_of_not h]

/-- Where an operation is not admitted, it stops the same way at every state of that phase. -/
theorem exec_stop {i : Instr} (h : ¬ s.Admits i) : exec i t = exec i s := by
  cases i with
  | cmdBegin => exact whenIdle_stop hphase h _ _
  | cmdSend => exact whenRunning_stop hphase h _ _
  | cmdRead rx =>
    cases rx with
    | none => exact whenRunning_stop hphase h _ _
    | some f =>
      by_cases hrun : s.phase = .running
      · have hbad : rxLegal f ≠ true := fun hlegal => h ⟨hrun, hlegal⟩
        show whenRunning t _ = whenRunning s _
        rw [whenRunning_of_running hrun, whenRunning_of_running (hphase.trans hrun)]
        simp only [hbad, Bool.false_eq_true, if_false]
      · exact whenRunning_stop hphase hrun _ _
  | cmdRegFilter | cmdClearFilter | cmdAlive | cmdSetAlive | cmdUuid =>
    exact whenHostFree_stop hphase (not_not.1 h) _ _
  | evtReset | evtTick => exact absurd trivial h
  | evtStartOk | evtStartFail => exact whenStarting_stop hphase h _ _

end Stops

/-! ## The simulation -/

theorem sameResult_refl (r : Result) : SameResult r r := by
  cases r with
  | next s => exact agree_refl s
  | fault => rfl
  | refused => rfl

theorem exec_sameResult {s t : State} (h : s.AgreeOnReachable t) (i : Instr) : SameResult (exec i s) (exec i t) := by
  have hphase := agree_phase h
  by_cases hadm : s.Admits i
  · rw [exec_of_admits hadm, exec_of_admits ((admits_of_phase hphase i).2 hadm)]
    exact agree_after h i
  · rw [exec_stop hphase hadm]
    exact sameResult_refl _

/-- The sample taken is a matter of the two lists of samples alone. -/
theorem takeSample_congr {s t : State} (htrace : t.trace = s.trace) (hrepeats : t.repeats = s.repeats) :
    t.takeSample = s.takeSample.map fun p => (p.1, { t with trace := p.2.trace }) := by
  simp only [State.takeSample, htrace, hrepeats]
  split <;> rfl

theorem step_sameResult {s t : State} (h : s.AgreeOnReachable t) : SameResult (step s) (step t) := by
  obtain ⟨htrace, hrepeats⟩ := agree_inputs h
  have htake := takeSample_congr htrace hrepeats
  rcases hs : s.takeSample with _ | ⟨w, u⟩
  · rw [hs] at htake
    rw [step_none hs, step_none htake]
    exact h
  · rw [hs] at htake
    have hagree : u.AgreeOnReachable { t with trace := u.trace } := by
      rw [(takeSample_some hs).2]
      exact agree_withTrace h _
    cases hdec : decode w with
    | step i =>
      rw [step_of_decode hs hdec, step_of_decode htake hdec]
      exact exec_sameResult hagree i
    | idle =>
      rw [step_of_idle hs hdec, step_of_idle htake hdec]
      exact hagree
    | reject why =>
      rw [step_of_reject hs hdec, step_of_reject htake hdec]
      exact sameResult_refl _

theorem run_succ_fault {k : Nat} {s : State} {r : Fault} (h : step s = .fault r) :
    Sys2Proof.core.run (k + 1) s = (.fault r : Result) := by
  have e : Sys2Proof.core.step s = .fault r := h
  have hrun : Sys2Proof.core.run (k + 1) s = .fault r := by simp only [Host.Core.run, e]
  exact hrun

theorem run_succ_refused {k : Nat} {s : State} {r : Refusal} (h : step s = .refused r) :
    Sys2Proof.core.run (k + 1) s = (.refused r : Result) := by
  have e : Sys2Proof.core.step s = .refused r := h
  have hrun : Sys2Proof.core.run (k + 1) s = .refused r := by simp only [Host.Core.run, e]
  exact hrun

/-- Settles O44: agreement is a simulation, so the runs of any length stay together by induction. -/
theorem unreachableSlotsUnobservable : Obligations.UnreachableSlotsUnobservable := by
  intro n
  induction n with
  | zero => exact fun _ _ h => h
  | succ n ih =>
    intro s t h
    have hstep := step_sameResult h
    cases hs : step s with
    | next u =>
      cases ht : step t <;> rw [hs, ht] at hstep
      case next v =>
        rw [run_succ hs, run_succ ht]
        exact ih u v hstep
      all_goals exact hstep.elim
    | fault r =>
      cases ht : step t <;> rw [hs, ht] at hstep
      case fault r' =>
        rw [run_succ_fault hs, run_succ_fault ht]
        exact hstep
      all_goals exact hstep.elim
    | refused r =>
      cases ht : step t <;> rw [hs, ht] at hstep
      case refused r' =>
        rw [run_succ_refused hs, run_succ_refused ht]
        exact hstep
      all_goals exact hstep.elim

end Sys2Proof.Machine
end

section
/-! PROOFS. Start attempts that are never answered with success (40_init_identity.md section 2). -/

namespace Sys2Proof.Machine

theorem decode_evt_startFail (h : UidHash) : decode (.evt 1#4 h) = .step .evtStartFail := rfl

theorem decode_evt_startOk (h : UidHash) : decode (.evt 2#4 h) = .step .evtStartOk := rfl

/-- Settles O33: acceptance is that of `whenStarting`. -/
theorem startFailBlinksAndRetries : Obligations.StartFailBlinksAndRetries :=
  ⟨decode_evt_startFail, fun _ => ⟨execStartFail_of_starting, fun h => whenStarting_of_not h _⟩⟩

/-- Settles O34: acceptance is that of `whenStarting`. -/
theorem startOkCompletesBegin : Obligations.StartOkCompletesBegin :=
  ⟨decode_evt_startOk, fun _ => ⟨execStartOk_of_starting, fun h => whenStarting_of_not h _⟩⟩

/-! ## One step of a block that waits -/

theorem keepsWaiting_iff (w : Sample) :
    keepsWaiting w = true ↔ decode w = .step .evtStartFail ∨ decode w = .step .evtTick ∨ decode w = .idle := by
  cases hdec : decode w <;> simp [keepsWaiting, hdec]

/-- A block that waits in STARTING goes on waiting at any sample that keeps it so; START_FAIL asks again at the kept
speed (40_init_identity.md R93, R95). -/
theorem step_of_keepsWaiting {s u : State} {w : Sample} (htake : s.takeSample = some (w, u))
    (hstart : s.phase = .starting) (hwait : keepsWaiting w = true) :
    ∃ t, step s = .next t ∧ t.phase = .starting ∧ t.trace = u.trace ∧ t.bSpeed = s.bSpeed ∧
      (s.label.ret = none → t.label.ret = none) ∧
      (decode w = .step .evtStartFail → .startReq s.bSpeed ∈ t.label.events) := by
  obtain ⟨-, hu⟩ := takeSample_some htake
  have hstart' : u.phase = .starting := by rw [hu]; exact hstart
  have hspeed : u.bSpeed = s.bSpeed := by rw [hu]
  have hlabel : u.label = s.label := by rw [hu]
  obtain hdec | hdec | hdec := (keepsWaiting_iff w).1 hwait
  · refine ⟨_, (step_of_decode htake hdec).trans (execStartFail_of_starting hstart'), hstart', rfl, hspeed,
      fun _ => rfl, fun _ => ?_⟩
    simp [hspeed]
  · exact ⟨u.after .evtTick, step_of_decode htake hdec, hstart', rfl, hspeed, fun _ => rfl,
      fun hfail => by simp [hdec] at hfail⟩
  · exact ⟨u, step_of_idle htake hdec, hstart', rfl, hspeed, fun hret => by rw [hlabel, hret],
      fun hfail => by simp [hdec] at hfail⟩

/-! ## The endless start as an invariant -/

theorem exists_takeSample {s : State} (h : s.repeats ≠ []) : ∃ w u, s.takeSample = some (w, u) := by
  cases htrace : s.trace with
  | cons w rest => exact ⟨w, _, takeSample_cons htrace⟩
  | nil =>
    obtain ⟨w, rest, hrepeats⟩ := List.exists_cons_of_ne_nil h
    exact ⟨w, _, takeSample_repeats htrace hrepeats⟩

/-- The sample taken, and those that follow it, are all among the samples that were still to come. -/
theorem mem_inputs_of_takeSample {s u : State} {w x : Sample} (htake : s.takeSample = some (w, u))
    (hx : x = w ∨ x ∈ u.trace) : x ∈ s.trace ++ s.repeats := by
  have hcons : x ∈ w :: u.trace := List.mem_cons.2 hx
  obtain ⟨htrace | ⟨-, hrepeats⟩, -⟩ := takeSample_some htake
  · exact List.mem_append_left _ (htrace ▸ hcons)
  · exact List.mem_append_right _ (hrepeats ▸ hcons)

/-- Settles O46: the sample taken keeps the block waiting, and the samples after it were to come before. -/
theorem startsForeverKept : Obligations.StartsForeverKept := by
  rintro s ⟨hstart, hrepeats, hall⟩
  obtain ⟨w, u, htake⟩ := exists_takeSample hrepeats
  have hwait := hall w (mem_inputs_of_takeSample htake (.inl rfl))
  obtain ⟨t, hstep, hstart', htrace, hspeed, hret, hfail⟩ := step_of_keepsWaiting htake hstart hwait
  have hrepeats' := step_repeats hstep
  refine ⟨t, hstep, ⟨hstart', hrepeats' ▸ hrepeats, fun x hx => ?_⟩, hspeed, hret, fun w' u' htake' hdec => ?_⟩
  · rw [htrace, hrepeats'] at hx
    obtain hx | hx := List.mem_append.1 hx
    · exact hall x (mem_inputs_of_takeSample htake (.inr hx))
    · exact hall x (List.mem_append_right _ hx)
  · obtain ⟨rfl, -⟩ : w = w' ∧ u = u' := by simpa using htake.symm.trans htake'
    exact hfail hdec

/-! ## Runs that never leave STARTING -/

/-- A run over any list of samples that keep the block waiting completes and waits. -/
theorem run_of_keepsWaiting (l : List Sample) {s : State} (htrace : s.trace = l) (hstart : s.phase = .starting)
    (hwait : ∀ w ∈ l, keepsWaiting w = true) :
    ∃ t, Sys2Proof.core.run l.length s = (.next t : Result) ∧ t.phase = .starting ∧ t.bSpeed = s.bSpeed := by
  induction l generalizing s with
  | nil => exact ⟨s, run_zero s, hstart, rfl⟩
  | cons w l ih =>
    obtain ⟨t, hstep, hstart', htrace', hspeed, -⟩ :=
      step_of_keepsWaiting (takeSample_cons htrace) hstart (hwait w (List.mem_cons_self ..))
    obtain ⟨v, hrun, hstart'', hspeed'⟩ := ih htrace' hstart' fun x hx => hwait x (List.mem_cons_of_mem _ hx)
    exact ⟨v, (run_succ hstep).trans hrun, hstart'', hspeed'.trans hspeed⟩

/-- Settles O48: the first n samples of the feed are a list of samples that keep the block waiting. -/
theorem unansweredStartWaits : Obligations.UnansweredStartWaits := by
  intro feed s hstart hfeed n
  have hwait : ∀ w ∈ (List.range n).map feed, keepsWaiting w = true := by
    intro w hw
    obtain ⟨k, -, rfl⟩ := List.mem_map.1 hw
    exact hfeed k
  have hrun := run_of_keepsWaiting (s := { s with trace := (List.range n).map feed }) _ rfl hstart hwait
  rw [List.length_map, List.length_range] at hrun
  exact hrun

/-- With START_FAIL over and over and nothing before it, a step is START_FAIL and leaves the samples as they were. -/
theorem step_startFail_forever {s : State} (hstart : s.phase = .starting) (htrace : s.trace = [])
    (hrepeats : s.repeats = [encode .evtStartFail]) : step s = .next (s.after .evtStartFail) := by
  have hsame : { s with trace := [] } = s := by rw [← htrace]
  have htake := takeSample_repeats htrace hrepeats
  rw [hsame] at htake
  rw [step_of_decode htake (decode_encode _)]
  exact execStartFail_of_starting hstart

/-- The endless run of 40_init_identity.md R95: every START_FAIL leaves what the first one left. -/
theorem run_startFail_forever {s : State} (hstart : s.phase = .starting) (htrace : s.trace = [])
    (hrepeats : s.repeats = [encode .evtStartFail]) (n : Nat) :
    Sys2Proof.core.run (n + 1) s = (.next (s.after .evtStartFail) : Result) := by
  induction n generalizing s with
  | zero => exact (run_succ (step_startFail_forever hstart htrace hrepeats)).trans (run_zero _)
  | succ n ih =>
    have hagain : (s.after .evtStartFail).after .evtStartFail = s.after .evtStartFail := rfl
    rw [run_succ (step_startFail_forever hstart htrace hrepeats),
      ih (s := s.after .evtStartFail) hstart htrace hrepeats, hagain]

/-- BEGIN with START_FAIL over and over behind it: the block starts, and the samples before the repeated ones are used
up. -/
theorem step_begin_then_startFails {s : State} (hidle : s.phase = .idle) (speed : Speed) (pin : Pin) :
    step { s with trace := [encode (.cmdBegin speed pin)], repeats := [encode .evtStartFail] } =
      .next (State.after { s with trace := [], repeats := [encode .evtStartFail] } (.cmdBegin speed pin)) :=
  (step_of_decode (takeSample_cons rfl) (decode_encode _)).trans (exec_of_admits hidle)

/-- Settles O47: the first step is BEGIN, which asks at the given speed, and every later one the same START_FAIL. -/
theorem beginMayNeverReturn : Obligations.BeginMayNeverReturn := by
  intro speed pin s hidle n
  have hbegin := step_begin_then_startFails hidle speed pin
  cases n with
  | zero =>
    refine ⟨_, (run_succ hbegin).trans (run_zero _), rfl, rfl, rfl, ?_, fun h => absurd rfl h⟩
    simp [State.after]
  | succ n =>
    refine ⟨_, (run_succ hbegin).trans (run_startFail_forever rfl rfl rfl n), rfl, rfl, rfl, ?_, fun _ => ⟨rfl, rfl⟩⟩
    simp [State.after]

end Sys2Proof.Machine
end

section
/-! PROOFS. Runs over a presented list of operations: one operation at a time, and runs in sequence. -/

namespace Sys2Proof.Machine

/-! ## What no operation reads (assumption logs 1 and 12) -/

theorem appendFilter_withTrace (s : State) (tr : List Sample) (m v : FilterWord) :
    State.appendFilter { s with trace := tr } m v = { s.appendFilter m v with trace := tr } := by
  unfold State.appendFilter
  split <;> rfl

theorem appendFilter_withRemain (s : State) (r : Millis) (l : Label) (m v : FilterWord) :
    State.appendFilter { s with tRemain := r, label := l } m v =
      { s.appendFilter m v with tRemain := r, label := l } := by
  unfold State.appendFilter
  split <;> rfl

/-- No operation reads the samples still to come. -/
theorem after_withTrace (s : State) (tr : List Sample) (i : Instr) :
    State.after { s with trace := tr } i = { s.after i with trace := tr } := by
  cases i with
  | cmdRegFilter m v =>
    simp only [State.after, appendFilter_withTrace]
    rfl
  | cmdRead rx => cases rx <;> rfl
  | _ => rfl

theorem after_presented (s : State) (ops : List Instr) (i : Instr) :
    (s.presented ops).after i = (s.after i).presented ops :=
  after_withTrace s _ i

theorem admits_presented {s : State} {ops : List Instr} {i : Instr} : (s.presented ops).Admits i ↔ s.Admits i :=
  admits_of_phase (presented_phase s ops) i

/-! ## Runs, operation by operation -/

/-- The first operation of a presented list is performed with the rest presented. -/
theorem step_presented_cons (s : State) (i : Instr) (ops : List Instr) :
    step (s.presented (i :: ops)) = exec i (s.presented ops) :=
  step_of_decode (takeSample_cons rfl) (decode_encode i)

theorem runOps_nil (s : State) : runOps [] s = .next (s.presented []) := rfl

theorem runOps_cons {s : State} {i : Instr} (h : s.Admits i) (ops : List Instr) :
    runOps (i :: ops) s = runOps ops (s.after i) := by
  have hstep : step (s.presented (i :: ops)) = .next ((s.after i).presented ops) := by
    rw [step_presented_cons, exec_of_admits (admits_presented.2 h), after_presented]
  exact run_succ hstep

theorem runOps_singleton {s : State} {i : Instr} (h : s.Admits i) : runOps [i] s = .next ((s.after i).presented []) :=
  runOps_cons h []

/-- A run that completes performed its first operation. -/
theorem admits_of_runOps_cons {s t : State} {i : Instr} {ops : List Instr} (h : runOps (i :: ops) s = .next t) :
    s.Admits i := by
  have hstep := step_presented_cons s i ops
  cases hexec : exec i (s.presented ops) with
  | next u => exact admits_presented.1 (exec_next hexec).1
  | fault r => cases h.symm.trans (run_succ_fault (hstep.trans hexec))
  | refused r => cases h.symm.trans (run_succ_refused (hstep.trans hexec))

/-- The operations after a run that completes are run from the state it ends in. -/
theorem runOps_append {ops : List Instr} {s t : State} (h : runOps ops s = .next t) (more : List Instr) :
    runOps (ops ++ more) s = runOps more t := by
  induction ops generalizing s with
  | nil =>
    obtain rfl := next_inj h
    rfl
  | cons i ops ih =>
    have hadm := admits_of_runOps_cons h
    rw [runOps_cons hadm] at h
    rw [List.cons_append, runOps_cons hadm]
    exact ih h

end Sys2Proof.Machine
end

section
/-! PROOFS. TICK, the countdown over runs, and the liveness law (44_liveness.md; 60_exceptions.md section 3). -/

namespace Sys2Proof.Machine

/-! ## TICK -/

theorem decode_evt_tick (h : UidHash) : decode (.evt 4#4 h) = .step .evtTick := rfl

/-- Settles O24: TICK is admitted everywhere and counts down by one. -/
theorem tickCountsDown : Obligations.TickCountsDown :=
  ⟨decode_evt_tick, fun s => ⟨s.after .evtTick, rfl, rfl, countDown_tRemain_toNat s⟩⟩

/-- An operation that neither reads nor writes T_REMAIN does not see a TICK before it (44_liveness.md R144;
10_state.md section 8). -/
theorem after_tick_comm {c : Instr} (s : State) (hread : ∀ rx, c ≠ .cmdRead rx) (hset : ∀ v, c ≠ .cmdSetAlive v)
    (hok : c ≠ .evtStartOk) (hreset : ∀ uidHash, c ≠ .evtReset uidHash) :
    (s.after c).after .evtTick = { (s.after .evtTick).after c with label := {} } := by
  cases c with
  | cmdRegFilter m v =>
    simp only [State.after, appendFilter_withRemain, State.countDown, appendFilter_tRemain]
  | cmdRead rx => exact absurd rfl (hread rx)
  | cmdSetAlive v => exact absurd rfl (hset v)
  | evtStartOk => exact absurd rfl hok
  | evtReset uidHash => exact absurd rfl (hreset uidHash)
  | _ => rfl

/-- Settles O29: both orders are admitted, and TICK commutes with every other operation but for the label it clears. -/
theorem tickOrderUnseenByOthers : Obligations.TickOrderUnseenByOthers := by
  intro c s u h hread hset hok hreset
  obtain ⟨hadm, -⟩ := exec_next h
  have hadm' : (s.after .evtTick).Admits c := (admits_of_phase rfl c).2 hadm
  refine ⟨((s.after .evtTick).after c).presented [], ?_, ?_⟩
  · rw [runOps_cons (i := .evtTick) trivial, runOps_singleton hadm']
  · rw [runOps_cons hadm, runOps_singleton (i := .evtTick) trivial, after_tick_comm s hread hset hok hreset]
    rfl

/-! ## The countdown over a run of TICKs -/

theorem runOps_ticks (n : Nat) (s : State) :
    ∃ t, runOps (List.replicate n .evtTick) s = .next t ∧ t.tTimeout = s.tTimeout ∧
      t.tRemain.toNat = s.tRemain.toNat - n ∧ t.alive = s.alive := by
  induction n generalizing s with
  | zero => exact ⟨s.presented [], runOps_nil s, rfl, rfl, rfl⟩
  | succ n ih =>
    obtain ⟨t, hrun, htimeout, hremain, halive⟩ := ih (s.after .evtTick)
    refine ⟨t, (runOps_cons (i := .evtTick) trivial _).trans hrun, htimeout, ?_, halive⟩
    have htick : (s.after .evtTick).tRemain.toNat = s.tRemain.toNat - 1 := countDown_tRemain_toNat s
    omega

/-- Settles O27: SETALIVE loads the countdown, and n TICKs take n from it. -/
theorem countdownExpiresAfterTimeout : Obligations.CountdownExpiresAfterTimeout := by
  intro timeout n s hfree
  obtain ⟨t, hrun, htimeout, hremain, halive⟩ := runOps_ticks n (s.after (.cmdSetAlive timeout))
  refine ⟨t, (runOps_cons (i := .cmdSetAlive timeout) hfree _).trans hrun, htimeout, hremain, halive, ?_⟩
  rw [expired_iff, hremain]
  exact Nat.sub_eq_zero_iff_le

/-! ## The liveness law -/

/-- A polling operation completes in RUNNING (44_liveness.md R147). -/
theorem admits_of_isPolling {i : Instr} (hpoll : isPolling i = true) {s : State} (hrun : s.phase = .running) :
    s.Admits i := by
  have hfree : s.phase ≠ .starting := by simp [hrun]
  cases i with
  | cmdRead rx =>
    cases rx with
    | none => exact hrun
    | some f => exact ⟨hrun, hpoll⟩
  | cmdSend => exact hrun
  | cmdRegFilter | cmdClearFilter | cmdAlive | cmdUuid => exact hfree
  | evtTick => trivial
  | cmdBegin | cmdSetAlive | evtReset | evtStartOk | evtStartFail => cases hpoll

/-- A polling operation leaves PHASE and T_TIMEOUT alone (44_liveness.md R147). -/
theorem after_of_isPolling {i : Instr} (hpoll : isPolling i = true) (s : State) :
    (s.after i).phase = s.phase ∧ (s.after i).tTimeout = s.tTimeout := by
  cases i with
  | cmdRegFilter m v => exact ⟨appendFilter_phase s m v, appendFilter_tTimeout s m v⟩
  | cmdRead rx => cases rx <;> exact ⟨rfl, rfl⟩
  | cmdBegin | cmdSetAlive | evtReset | evtStartOk | evtStartFail => cases hpoll
  | _ => exact ⟨rfl, rfl⟩

theorem ne_reset_of_isPolling {i : Instr} (hpoll : isPolling i = true) (uidHash : UidHash) : i ≠ .evtReset uidHash := by
  rintro rfl
  cases hpoll

/-- Among polling operations only a READ of a frame loads the countdown, so the two counts of TICKs are one. -/
theorem ticksSinceFrame_cons {i : Instr} (hpoll : isPolling i = true) (n : Nat) (ops : List Instr) :
    ticksSinceFrame n (i :: ops) = ticksSinceFrame (ticksSinceLoad n i) ops := by
  cases i with
  | cmdRead rx => cases rx <;> rfl
  | cmdSetAlive | evtStartOk => cases hpoll
  | _ => rfl

/-- Over a run of polling operations T_REMAIN is T_TIMEOUT less the TICKs since the last frame (44_liveness.md R147). -/
theorem runOps_of_isPolling (ops : List Instr) (hpoll : ∀ i ∈ ops, isPolling i = true) {s : State} {n : Nat}
    (hrun : s.phase = .running) (hcount : s.tRemain.toNat = s.tTimeout.toNat - n) :
    ∃ t, runOps ops s = .next t ∧ t.phase = .running ∧ t.tTimeout = s.tTimeout ∧
      t.tRemain.toNat = s.tTimeout.toNat - ticksSinceFrame n ops := by
  induction ops generalizing s n with
  | nil => exact ⟨s.presented [], runOps_nil s, hrun, rfl, hcount⟩
  | cons i ops ih =>
    have hi := hpoll i (List.mem_cons_self ..)
    obtain ⟨hphase, htimeout⟩ := after_of_isPolling hi s
    have hcount' := after_tracks_ticks hcount (ne_reset_of_isPolling hi)
    obtain ⟨t, hruns, hrun', htimeout', hremain⟩ :=
      ih (fun j hj => hpoll j (List.mem_cons_of_mem _ hj)) (hphase.trans hrun) hcount'
    refine ⟨t, (runOps_cons (admits_of_isPolling hi hrun) ops).trans hruns, hrun', htimeout'.trans htimeout, ?_⟩
    rw [hremain, htimeout, ticksSinceFrame_cons hi]

/-- READ gives ALIVE from the countdown it finds, frame or none (42_read.md R112 step 1). -/
theorem after_read_alive (s : State) (rx : Option Frame) : (s.after (.cmdRead rx)).alive = aliveFlag s.tRemain := by
  cases rx <;> rfl

/-- Settles O28: the last READ reads the countdown the polling run before it has left. -/
theorem livenessLawOverRuns : Obligations.LivenessLawOverRuns := by
  intro ops rx s hrun hloaded hpoll hread
  have hcount : s.tRemain.toNat = s.tTimeout.toNat - 0 := by rw [hloaded, Nat.sub_zero]
  obtain ⟨t, hruns, hrun', htimeout, hremain⟩ := runOps_of_isPolling ops hpoll hrun hcount
  obtain ⟨hphase, hkept⟩ := after_of_isPolling hread t
  refine ⟨(t.after (.cmdRead rx)).presented [], ?_, hphase.trans hrun', hkept.trans htimeout, ?_⟩
  · rw [runOps_append hruns, runOps_singleton (admits_of_isPolling hread hrun')]
  · rw [presented_alive, after_read_alive, aliveFlag_iff, hremain]
    exact Nat.sub_ne_zero_iff_lt

theorem ticksSinceFrame_ticks (m n : Nat) : ticksSinceFrame m (List.replicate n .evtTick) = m + n := by
  induction n generalizing m with
  | zero => rfl
  | succ n ih =>
    show ticksSinceFrame (m + 1) (List.replicate n .evtTick) = m + (n + 1)
    rw [ih]
    omega

/-- Settles O16: the READ that ends the silence sees T_REMAIN = 0 and reloads it, and from there the liveness law
speaks. -/
theorem silenceEndingFrameReadDead : Obligations.SilenceEndingFrameReadDead := by
  intro f s hrun hfits hsilent
  have hlegal : rxLegal f = true := (rxLegal_iff f).2 hfits
  refine ⟨_, runOps_singleton (i := .cmdRead (some f)) ⟨hrun, hlegal⟩, ?_, fun n hn => ?_⟩
  · rw [presented_alive, after_read_alive, hsilent]
    rfl
  · have hticks : ∀ i ∈ List.replicate n Instr.evtTick, isPolling i = true := by
      intro i hi
      rw [List.eq_of_mem_replicate hi]
      rfl
    obtain ⟨u, hruns, -, -, halive⟩ :=
      livenessLawOverRuns (List.replicate n .evtTick) none ((s.after (.cmdRead (some f))).presented []) hrun rfl
        hticks rfl
    refine ⟨u, hruns, halive.2 ?_⟩
    rw [ticksSinceFrame_ticks, Nat.zero_add]
    exact hn

end Sys2Proof.Machine
end

section
/-! PROOFS. RESET, and `begin` as a whole (40_init_identity.md sections 1 and 2; 70_reset_and_hazards.md section 1). -/

namespace Sys2Proof.Machine

theorem decode_evt_reset (h : UidHash) : decode (.evt 8#4 h) = .step (.evtReset h) := rfl

/-- Settles O30: RESET is admitted everywhere; NODE_UUID is the low half of the hash. -/
theorem resetEventConstructs : Obligations.ResetEventConstructs :=
  ⟨decode_evt_reset, fun h s => ⟨s.after (.evtReset h), rfl, localAddr_toNat h, rfl, rfl, rfl, rfl⟩⟩

/-- Settles O31: the state after reset captures the board's hash as RESET does. -/
theorem resetStateDefinedRegisters : Obligations.ResetStateDefinedRegisters := ⟨localAddr_toNat _, rfl, rfl⟩

/-- Any number of failed attempts leaves the block starting, IND and the label apart, and the request stands
(40_init_identity.md R93, R95). -/
theorem runOps_startFails (n : Nat) {s : State} (hstart : s.phase = .starting)
    (hreq : OutEvent.startReq s.bSpeed ∈ s.label.events) :
    ∃ t, runOps (List.replicate n .evtStartFail) s = .next t ∧
      t = { s with ind := t.ind, label := t.label, trace := [] } ∧ .startReq s.bSpeed ∈ t.label.events := by
  induction n generalizing s with
  | zero => exact ⟨s.presented [], runOps_nil s, rfl, hreq⟩
  | succ n ih =>
    have hreq' : OutEvent.startReq s.bSpeed ∈ (s.after .evtStartFail).label.events := by simp [State.after]
    obtain ⟨t, hruns, ht, hmem⟩ := ih (s := s.after .evtStartFail) hstart hreq'
    exact ⟨t, (runOps_cons (i := .evtStartFail) hstart _).trans hruns, ht, hmem⟩

/-- Settles O36: BEGIN asks, every failure asks again, and one START_OK after them ends the call. -/
theorem beginRetriesUntilStarted : Obligations.BeginRetriesUntilStarted := by
  intro speed pin n s hidle
  have hreq : OutEvent.startReq speed ∈ (s.after (.cmdBegin speed pin)).label.events := by simp [State.after]
  obtain ⟨t, hruns, ht, hmem⟩ := runOps_startFails n (s := s.after (.cmdBegin speed pin)) rfl hreq
  have hstart : t.phase = .starting := by rw [ht]; rfl
  have hspeed : t.bSpeed = speed := by rw [ht]; rfl
  refine ⟨⟨t, (runOps_cons (i := .cmdBegin speed pin) hidle _).trans hruns, hstart, hspeed, hmem⟩,
    (t.after .evtStartOk).presented [], ?_, ?_, rfl⟩
  · rw [runOps_cons (i := .cmdBegin speed pin) hidle, runOps_append hruns,
      runOps_singleton (i := .evtStartOk) hstart]
  · rw [ht]
    rfl

end Sys2Proof.Machine
end

section
/-! PROOFS. The codec as a bijection, what SEND drops and what it stands for (41_codec_send.md sections 1 and 2). -/

namespace Sys2Proof.Machine

/-! ## The codec -/

/-- ENC undoes DEC_EXT: quotient and remainder by 2^18 give back the identifier (41_codec_send.md section 1). -/
theorem enc_decExt (x : Ident) : enc (decExt x).1 (decExt x).2 = x := by
  apply BitVec.eq_of_toNat_eq
  rw [enc_toNat, decExt_fst_toNat, decExt_snd_toNat]
  omega

/-- ENC keeps the lexicographic order: the address never carries into the group (41_codec_send.md section 1). -/
theorem enc_lt_iff (g g' : GroupId) (u u' : NodeAddr) :
    (enc g u).toNat < (enc g' u').toNat ↔ g.toNat < g'.toNat ∨ (g = g' ∧ u.toNat < u'.toNat) := by
  have hu := u.isLt
  have hu' := u'.isLt
  rw [enc_toNat, enc_toNat, ← BitVec.toNat_inj]
  omega

/-- Settles O9: both directions of the bijection, and the order. -/
theorem codecRoundTripOrder : Obligations.CodecRoundTripOrder := ⟨decExt_enc, enc_decExt, enc_lt_iff⟩

/-! ## What SEND drops -/

theorem groupOf_congr {id id' : IdOperand} (h : id.toNat % 2048 = id'.toNat % 2048) : groupOf id = groupOf id' := by
  apply BitVec.eq_of_toNat_eq
  rw [groupOf_toNat, groupOf_toNat, h]

/-- Only the lanes below the count are sent (41_codec_send.md R102). -/
theorem payload_congr {n : Nat} {d d' : Lanes} (h : ∀ k : Fin 8, k.val < n → d[k] = d'[k]) :
    payload n d = payload n d' := by
  refine List.ext_getElem? fun k => ?_
  by_cases hk : k < min n 8
  · have hn : k < n := by omega
    rw [payload_getElem? n d ⟨k, by omega⟩ hn, payload_getElem? n d' ⟨k, by omega⟩ hn, h ⟨k, by omega⟩ hn]
  · rw [List.getElem?_eq_none (by rw [payload_length]; omega), List.getElem?_eq_none (by rw [payload_length]; omega)]

theorem txRecord_congr {len len' : LenOperand} {data data' : Lanes} (ident : Ident)
    (hlen : min len.toNat 8 = min len'.toNat 8)
    (hdata : ∀ k : Fin 8, k.val < min len.toNat 8 → data[k] = data'[k]) :
    txRecord ident len data = txRecord ident len' data' := by
  have hclip : clipLen len.toNat = clipLen len'.toNat := hlen
  have hpayload : payload (clipLen len.toNat) data = payload (clipLen len.toNat) data' := payload_congr hdata
  rw [txRecord, hpayload, hclip]
  rfl

/-- SEND reads of its operands only what its record holds (41_codec_send.md R102). -/
theorem execSend_congr {data data' : Lanes} {len len' : LenOperand} {id id' : IdOperand} (s : State)
    (hgroup : groupOf id = groupOf id')
    (hrec : ∀ ident, txRecord ident len data = txRecord ident len' data') :
    exec (.cmdSend data len id) s = exec (.cmdSend data' len' id') s := by
  show execSend data len id s = execSend data' len' id' s
  simp only [execSend, hgroup, hrec]

/-- Settles O11: the group, the count and the bytes sent are all of the operands that reach the record. -/
theorem sendTruncatesSilently : Obligations.SendTruncatesSilently := fun _ _ _ _ _ _ s hid hlen hdata =>
  execSend_congr s (groupOf_congr hid) fun ident => txRecord_congr ident hlen hdata

/-! ## What the record stands for -/

theorem driverCalls_length (r : TxRecord) : (driverCalls r).length = r.data.length + 2 := by
  simp [driverCalls]

theorem driverCalls_first (r : TxRecord) : (driverCalls r)[0]? = some (.beginExtendedPacket r.ident) := rfl

theorem driverCalls_write {r : TxRecord} {k : Nat} {b : Byte} (h : r.data[k]? = some b) :
    (driverCalls r)[k + 1]? = some (.write b) := by
  obtain ⟨hk, -⟩ := List.getElem?_eq_some_iff.1 h
  rw [driverCalls, List.getElem?_cons_succ, List.getElem?_append_left (by rwa [List.length_map]), List.getElem?_map, h]
  rfl

theorem driverCalls_last (r : TxRecord) : (driverCalls r)[r.data.length + 1]? = some .endPacket := by
  simp [driverCalls]

/-- Settles O12: the calls are one packet begin, a write for each byte of the record, and one packet end. -/
theorem sendDriverCallSequence : Obligations.SendDriverCallSequence := by
  intro data len id s hrun
  obtain ⟨-, -, -, hcount, hbytes⟩ := txRecord_spec (enc (groupOf id) s.nodeUuid) len data
  refine ⟨_, _, execSend_of_running hrun data len id, rfl, ?_, driverCalls_first _,
    fun k hk => driverCalls_write (hbytes k hk), ?_⟩
  · rw [driverCalls_length, hcount]
  · rw [← hcount]
    exact driverCalls_last _

end Sys2Proof.Machine
end

section
/-! PROOFS. READ: the record it refuses, the indicator, and frames sent by another node (42_read.md section 2). -/

namespace Sys2Proof.Machine

/-- READ in RUNNING of a record outside the driver's contract is refused (42_read.md R114). -/
theorem execRead_of_illegal {f : Frame} {s : State} (hrun : s.phase = .running) (hillegal : rxLegal f = false) :
    exec (.cmdRead (some f)) s = .refused .malformedRecord := by
  show whenRunning s _ = _
  rw [whenRunning_of_running hrun]
  simp only [hillegal, Bool.false_eq_true, if_false]

/-- Settles O14: such a record is not legal. -/
theorem readRefusesMalformedRecord : Obligations.ReadRefusesMalformedRecord := by
  intro f s hrun hstd hlarge
  refine execRead_of_illegal hrun (Bool.eq_false_iff.2 fun hlegal => ?_)
  obtain hext | hsmall := (rxLegal_iff f).1 hlegal
  · simp [hstd] at hext
  · omega

/-- Settles O15: the drives and the tag both follow the result of MATCH. -/
theorem readIndicatorDrives : Obligations.ReadIndicatorDrives := by
  intro s hrun
  refine ⟨⟨_, execRead_none_of_running hrun, rfl, rfl⟩, fun f hfits => ?_⟩
  refine ⟨_, execRead_some_completes hrun ((rxLegal_iff f).2 hfits), ?_⟩
  dsimp only
  cases s.matchId (decodeIdent f).1 with
  | pass v | matched v => exact ⟨fun h => by simp [kindOf] at h, fun _ => ⟨rfl, rfl⟩⟩
  | unmatched => exact ⟨fun _ => ⟨rfl, rfl⟩, fun h => absurd rfl h⟩

/-! ## From node to node (95_test_vectors.md P5) -/

/-- A frame that carries SEND's record is legal and decodes to the sender's group and address. -/
theorem decodeIdent_of_carries {f : Frame} {g : GroupId} {u : NodeAddr} {len : LenOperand} {data : Lanes}
    (h : Carries f (txRecord (enc g u) len data)) : rxLegal f = true ∧ decodeIdent f = (g, u) := by
  obtain ⟨hext, hident, -⟩ := h
  have hext' : f.ext = true := hext
  refine ⟨(rxLegal_iff f).2 (.inl hext'), ?_⟩
  have hident' : f.ident = enc g u := hident
  simp only [decodeIdent, hext', if_true, hident', decExt_enc]

/-- A frame that carries SEND's record has its count and, in the lanes below it, its bytes. -/
theorem data_of_carries {f : Frame} {ident : Ident} {len : LenOperand} {data : Lanes}
    (h : Carries f (txRecord ident len data)) :
    f.len.toNat = min len.toNat 8 ∧ ∀ k : Fin 8, k.val < min len.toNat 8 → f.data[k] = data[k] := by
  obtain ⟨-, -, hlen, hbytes⟩ := h
  obtain ⟨-, -, hlen', hcount, hdata⟩ := txRecord_spec ident len data
  refine ⟨by rw [hlen, hlen'], fun k hk => ?_⟩
  have hsent := hbytes k (by rwa [hcount])
  exact Option.some.inj (hsent.symm.trans (hdata k hk))

/-- Settles O45: the identifier decodes back to group and address, and READ copies the bytes below the count. -/
theorem sentFrameReadsBack : Obligations.SentFrameReadsBack := by
  intro a b data len id ha hb
  refine ⟨_, execSend_of_running ha data len id, fun f hcarries => ?_⟩
  obtain ⟨hlegal, hident⟩ := decodeIdent_of_carries hcarries
  obtain ⟨hlen, hdata⟩ := data_of_carries hcarries
  have hcount : min f.len.toNat 8 = min len.toNat 8 := by omega
  refine ⟨_, execRead_some_completes hb hlegal, ?_, ?_, ?_, fun k hk => ?_⟩
  · rw [hident]
    exact groupOf_toNat id
  · rw [hident]
  · exact (clipLen_field_toNat _).trans hcount
  · have hbelow : k.val < clipLen f.len.toNat := by rwa [clipLen_eq, hcount]
    exact (copyLanes_getElem _ _ _ k).trans ((if_pos hbelow).trans (hdata k hk))

end Sys2Proof.Machine
end

section
/-! PROOFS. The comparator in parallel, one filter entry, and registration (43_filter.md sections 1 and 2). -/

namespace Sys2Proof.Machine

/-! ## The comparator in parallel -/

theorem hit_iff (s : State) (id : GroupId) (k : Fin 8) :
    s.hit id k = true ↔ k.val < s.fCount.toNat ∧ zextFilter id &&& s.fMask[k] = s.fVal[k] := by
  rw [State.hit, Bool.and_eq_true, decide_eq_true_iff, beq_iff_eq]

/-- The slot found first is one that hits, and no slot below it does. -/
theorem find_slot_some {p : Fin 8 → Bool} {k : Fin 8} (h : (List.finRange 8).find? p = some k) :
    p k = true ∧ ∀ j : Fin 8, j < k → p j = false := by
  obtain ⟨hk, i, hi, heq, hbelow⟩ := List.find?_eq_some_iff_getElem.1 h
  refine ⟨hk, fun j hj => ?_⟩
  rw [List.getElem_finRange] at heq
  subst heq
  have hmiss := hbelow j.val hj
  rw [List.getElem_finRange] at hmiss
  simpa using hmiss

/-- Settles O18: the smallest slot that hits is the first registered entry that matches, and if none hits none
matches. -/
theorem scanEqualsParallelComparator : Obligations.ScanEqualsParallelComparator := by
  intro s id
  by_cases hempty : s.fCount = 0#4
  · rw [matchId_of_empty hempty, State.parallelMatch, if_pos hempty]
  · rw [State.parallelMatch, if_neg hempty]
    cases hfind : (List.finRange 8).find? (s.hit id) with
    | none =>
      refine matchId_of_no_hit hempty fun k hk hmatch => ?_
      exact List.find?_eq_none.1 hfind k (List.mem_finRange k) ((hit_iff s id k).2 ⟨hk, hmatch⟩)
    | some k =>
      obtain ⟨hhit, hbelow⟩ := find_slot_some hfind
      obtain ⟨hk, hmatch⟩ := (hit_iff s id k).1 hhit
      refine matchId_of_first_hit hk hmatch fun j hj hmatch' => ?_
      have hhit' : s.hit id j = true := (hit_iff s id j).2 ⟨Nat.lt_trans hj hk, hmatch'⟩
      rw [hbelow j hj] at hhit'
      cases hhit'

/-! ## One entry -/

theorem scan_one_matched_iff (id : GroupId) (m f v : FilterWord) :
    scanEntries id [(m, f)] = .matched v ↔ zextFilter id &&& m = f ∧ v = f := by
  by_cases h : zextFilter id &&& m = f
  · simp [scanEntries, h, eq_comm]
  · simp [scanEntries, h]

theorem scan_one_unmatched_iff (id : GroupId) (m f : FilterWord) :
    scanEntries id [(m, f)] = .unmatched ↔ zextFilter id &&& m ≠ f := by
  by_cases h : zextFilter id &&& m = f
  · simp [scanEntries, h]
  · simp [scanEntries, h]

/-- With no value bit outside the mask, the masked comparison is agreement at the bits of the mask. -/
theorem and_eq_iff_bits {x m f : FilterWord} (hinside : f &&& ~~~m = 0#16) :
    x &&& m = f ↔ ∀ k : Fin 16, m.getLsbD k.val = true → x.getLsbD k.val = f.getLsbD k.val := by
  constructor
  · rintro rfl k hk
    simp [hk]
  · intro hbits
    refine BitVec.eq_of_getLsbD_eq fun k hk => ?_
    have hout : (f &&& ~~~m).getLsbD k = false := by rw [hinside, BitVec.getLsbD_zero]
    cases hm : m.getLsbD k with
    | true => simpa [hm] using hbits ⟨k, hk⟩ hm
    | false =>
      have hf : f.getLsbD k = false := by
        simpa only [BitVec.getLsbD_and, BitVec.getLsbD_not, hm, hk, decide_true, Bool.true_and, Bool.not_false,
          Bool.and_true] using hout
      rw [BitVec.getLsbD_and, hm, hf, Bool.and_false]

theorem and_not_of_and_eq {x m f : FilterWord} (h : x &&& m = f) : f &&& ~~~m = 0#16 := by
  rw [← h, BitVec.and_assoc, BitVec.and_not_self]
  exact BitVec.and_zero

/-- A masked group id has no bit above bit 10. -/
theorem zextFilter_and_lt (id : GroupId) (m : FilterWord) : (zextFilter id &&& m).toNat < 2048 := by
  have hid := id.isLt
  have hle : (zextFilter id &&& m).toNat ≤ (zextFilter id).toNat := by
    rw [BitVec.toNat_and]
    exact Nat.and_le_left
  rw [zextFilter_toNat] at hle
  omega

/-- The mask 0x7FF keeps the whole group id. -/
theorem zextFilter_and_full (id : GroupId) : zextFilter id &&& 0x7FF#16 = zextFilter id := by
  have hid := id.isLt
  apply BitVec.eq_of_toNat_eq
  rw [BitVec.toNat_and, zextFilter_toNat]
  exact (Nat.and_two_pow_sub_one_eq_mod id.toNat 11).trans (Nat.mod_eq_of_lt hid)

/-- Settles O19: each clause is a fact about the one masked comparison. -/
theorem filterEntryProperties : Obligations.FilterEntryProperties := by
  intro id m f
  refine ⟨fun hinside => ?_, fun houtside => ?_, fun hlarge => ?_, ?_, fun hne => ?_, ?_, fun v hv => ?_⟩
  · rw [scan_one_matched_iff, and_iff_left rfl]
    exact and_eq_iff_bits hinside
  · exact (scan_one_unmatched_iff id m f).2 fun h => houtside (and_not_of_and_eq h)
  · refine (scan_one_unmatched_iff id m f).2 fun h => ?_
    have hlt := zextFilter_and_lt id m
    rw [h] at hlt
    omega
  · exact (scan_one_matched_iff id 0#16 0#16 0#16).2 ⟨BitVec.and_zero, rfl⟩
  · exact (scan_one_unmatched_iff id 0#16 f).2 fun h => hne (h.symm.trans BitVec.and_zero)
  · rw [scan_one_matched_iff, and_iff_left rfl, zextFilter_and_full, ← BitVec.toNat_inj, zextFilter_toNat]
    exact eq_comm
  · obtain ⟨hmatch, hvf⟩ := (scan_one_matched_iff id m f v).1 hv
    exact ⟨hvf, hvf.trans hmatch.symm⟩

/-! ## Registration -/

theorem decode_cmd_regFilter (p : CmdPorts) (rx : Option Frame) :
    decode (.cmd 4#4 p rx) = .step (.cmdRegFilter p.mask p.filt) := rfl

/-- REGFILTER returns 1 whether or not it stored, and `rf_stored` tells which (43_filter.md R133). -/
theorem after_regFilter_label (s : State) (m v : FilterWord) :
    (s.after (.cmdRegFilter m v)).label = { ret := some true, rfStored := some s.hasRoom } := by
  simp only [State.after, holdsEntry_append]

/-- Settles O20: with room the entry is appended, in a full table nothing is, and acceptance is that of
`whenHostFree`. -/
theorem regFilterAppends : Obligations.RegFilterAppends := by
  refine ⟨decode_cmd_regFilter, fun m v s => ⟨fun hfree hroom => ?_, fun hfree hfull => ?_, fun hstart t hnext => ?_⟩⟩
  · obtain ⟨hcount, hslots⟩ := appendFilter_of_room hroom m v
    have hlabel := after_regFilter_label s m v
    rw [(hasRoom_iff s).2 hroom] at hlabel
    refine ⟨_, exec_of_admits (i := .cmdRegFilter m v) hfree, ?_, hcount, hslots⟩
    rw [← hlabel]
    exact congrArg (fun u : State => { u with label := (s.after (.cmdRegFilter m v)).label }) (appendFilter_frame s m v)
  · have hroom : s.hasRoom = false := Bool.eq_false_iff.2 fun h => absurd ((hasRoom_iff s).1 h) (by omega)
    rw [execRegFilter_of_free hfree, holdsEntry_append, appendFilter_of_full hfull, hroom]
  · obtain ⟨hfree, -⟩ := execRegFilter_next hnext
    exact hfree hstart

/-- After a run on an empty table, one more registration keeps everything but the table, the label and the samples. -/
theorem appendFilter_keeps_frame {s t : State}
    (ht : t = { s with fCount := t.fCount, fMask := t.fMask, fVal := t.fVal, label := t.label, trace := [] })
    (m v : FilterWord) (l : Label) :
    { t.appendFilter m v with label := l, trace := [] } = { s with
      fCount := (t.appendFilter m v).fCount, fMask := (t.appendFilter m v).fMask, fVal := (t.appendFilter m v).fVal
      label := l, trace := [] } := by
  rw [ht]
  unfold State.appendFilter
  split <;> rfl

/-- The table `t` holds the first eight of the entries `l`, and the slots above them as `s` has them. -/
def State.Registered (t s : State) (l : List (FilterWord × FilterWord)) : Prop :=
  t.fCount.toNat = min l.length 8 ∧
    ∀ k : Fin 8, (l[k.val]? = none → t.fMask[k] = s.fMask[k] ∧ t.fVal[k] = s.fVal[k]) ∧
      ∀ e, l[k.val]? = some e → t.fMask[k] = e.1 ∧ t.fVal[k] = e.2

/-- One more registration registers the list with one more entry, or drops it when eight are stored
(43_filter.md R133). -/
theorem registered_append {s t : State} {l : List (FilterWord × FilterWord)} (h : t.Registered s l)
    (e : FilterWord × FilterWord) : (t.appendFilter e.1 e.2).Registered s (l ++ [e]) := by
  obtain ⟨hcount, hslots⟩ := h
  have hlen : (l ++ [e]).length = l.length + 1 := List.length_append
  by_cases hroom : t.fCount.toNat < 8
  · obtain ⟨hcount', hslots'⟩ := appendFilter_of_room hroom e.1 e.2
    have hnew : t.fCount.toNat = l.length := by omega
    refine ⟨by omega, fun k => ?_⟩
    obtain ⟨hmask, hval⟩ := hslots' k
    rw [hmask, hval, hnew]
    obtain hlt | heq | hgt := Nat.lt_trichotomy k.val l.length
    · rw [List.getElem?_append_left hlt, if_neg hlt.ne, if_neg hlt.ne]
      exact hslots k
    · simp [heq]
    · have hold : l[k.val]? = none := List.getElem?_eq_none hgt.le
      have hnone : (l ++ [e])[k.val]? = none := List.getElem?_eq_none (by omega)
      rw [hnone, if_neg hgt.ne', if_neg hgt.ne']
      exact hold ▸ hslots k
  · have hfull := Nat.le_of_not_lt hroom
    rw [appendFilter_of_full hfull]
    refine ⟨by omega, fun k => ?_⟩
    rw [List.getElem?_append_left (by omega)]
    exact hslots k

/-- Settles O22: by induction on the list from its end, since the last registration finds the first ones stored. -/
theorem registrationStopsAtCapacity : Obligations.RegistrationStopsAtCapacity := by
  intro l s hfree hempty
  suffices h : ∃ t, runOps (l.map fun e => .cmdRegFilter e.1 e.2) s = .next t ∧
      t = { s with fCount := t.fCount, fMask := t.fMask, fVal := t.fVal, label := t.label, trace := [] } ∧
      t.Registered s l ∧ (l ≠ [] → t.label = { ret := some true, rfStored := some (decide (l.length ≤ 8)) }) by
    obtain ⟨t, hruns, hframe, ⟨hcount, hslots⟩, hlabel⟩ := h
    exact ⟨t, hruns, hframe, hcount, hslots, hlabel⟩
  induction l using List.reverseRecOn with
  | nil =>
    refine ⟨s.presented [], runOps_nil s, rfl, ⟨by simp [hempty], fun k => ⟨fun _ => ⟨rfl, rfl⟩, fun e he => ?_⟩⟩,
      fun h => absurd rfl h⟩
    simp at he
  | append_singleton l e ih =>
    obtain ⟨t, hruns, hframe, hreg, -⟩ := ih
    have hfree' : t.phase ≠ .starting := by rw [hframe]; exact hfree
    refine ⟨(t.after (.cmdRegFilter e.1 e.2)).presented [], ?_, appendFilter_keeps_frame hframe _ _ _,
      registered_append hreg e, fun _ => ?_⟩
    · rw [List.map_append, runOps_append hruns]
      exact runOps_singleton (i := .cmdRegFilter e.1 e.2) hfree'
    · have hroom : t.hasRoom = decide ((l ++ [e]).length ≤ 8) := by
        obtain ⟨hcount, -⟩ := hreg
        rw [Bool.eq_iff_iff, hasRoom_iff, decide_eq_true_iff, List.length_append, List.length_singleton]
        omega
      rw [presented_label, after_regFilter_label, hroom]

end Sys2Proof.Machine
end
